-- ==== Sys2Proof/Word.lean ====
section
/-! DEFINITION. The two word types of RTDCORE: a byte of the bus (rule R9) and a value of the numeric
format `F`, held as its 64-bit binary64 pattern (rules R7, R89, decision D1). The arithmetic on `F`
stands in Machine/Float.lean. -/

namespace Sys2Proof

/-- A byte, "always an unsigned integer 0..255" (rule R9). -/
abbrev Byte := BitVec 8

/-- A value of format `F` as its binary64 pattern: sign bit 63, exponent bits 62:52, fraction bits 51:0
(rule R89). -/
abbrev F := BitVec 64

end Sys2Proof
end

