-- ==== Sys2Proof/Syntax.lean ====
section
/-! DEFINITION. What can be asked of RTDCORE: the fifteen operations (rules R3, R81), the names they use
(curves, wirings), the host's registers (rules R20, R39) and the host's actions (rules R68, R95, R96). -/

namespace Sys2Proof

/-- The four material curves, in the order of rule R82. -/
inductive Curve where
  | pt385
  | pt391
  | cu428
  | ni617
  deriving DecidableEq, Repr

/-- The wirings `INIT` can name (rule R83). -/
inductive Wiring where
  | w2
  | w3
  | w4
  deriving DecidableEq, Repr

/-- The fifteen operations, one constructor per row of spec/opcode_table.json. None has an explicit
operand: operands are fixed registers (rule R95). -/
inductive Instr where
  | r2tPt385
  | r2tPt391
  | r2tCu428
  | r2tNi617
  | t2rPt385
  | t2rPt391
  | t2rCu428
  | t2rNi617
  | cal
  | conv
  | acq
  | init2w
  | init3w
  | init4w
  | rdcfg
  deriving DecidableEq, Repr

/-- A register the host may name: general register `x[i]` or control register `c[j]` (rules R20, R39).
The index is as the host gives it, so that an access to a register that does not exist can be expressed
(and is refused, rule R39). -/
inductive HostReg where
  | x (i : Nat)
  | c (j : Nat)
  deriving DecidableEq, Repr

/-- One line of a host program, or the one event of the environment that is no host action (reset).
`write`, `read` and `start` are the three host actions of rule R68. `copy` is the pseudo-operation
`MOV dst, src` of rule R96: a host read of `src`, then a host write of the value read to `dst`.
`wordWrite` and `wordRead` are the same accesses by the word index of a memory-mapped realisation
(rule R68). `reset` is the event of rule R220. -/
inductive Action where
  | write (r : HostReg) (v : BitVec 64)
  | read (r : HostReg)
  | start (cmd : BitVec 8)
  | copy (dst src : HostReg)
  | wordWrite (index : Nat) (v : BitVec 64)
  | wordRead (index : Nat)
  | reset
  deriving DecidableEq, Repr

end Sys2Proof
end

