-- ==== Sys2Proof/WellFormed.lean ====
section
/-! DEFINITION. Which terms of Syntax.lean the spec gives a meaning: every operation (it has no operand
to be wrong), the registers that exist (rules R20, R39), the fifteen legal command words (rules R80, R81,
R84) and the host word indices of rule R68. -/

namespace Sys2Proof

/-- Every operation is well formed: it carries no operand (rule R95). -/
def Instr.wf : Instr → Bool
  | .r2tPt385 | .r2tPt391 | .r2tCu428 | .r2tNi617 => true
  | .t2rPt385 | .t2rPt391 | .t2rCu428 | .t2rNi617 => true
  | .cal | .conv | .acq => true
  | .init2w | .init3w | .init4w | .rdcfg => true

/-- `x[0..3]` and `c[0..9]` exist, and nothing else (rules R20, R39). -/
def HostReg.wf : HostReg → Bool
  | .x i => decide (i < 4)
  | .c j => decide (j < 10)

/-- The fifteen legal command words, listed as the last paragraph of rule R81 lists them. -/
def legalCommands : List (BitVec 8) :=
  [0x00#8, 0x01#8, 0x02#8, 0x03#8, 0x10#8, 0x11#8, 0x12#8, 0x13#8, 0x20#8, 0x30#8, 0x40#8,
   0x50#8, 0x51#8, 0x52#8, 0x60#8]

/-- The word indices of rule R68: `x[i]` at 0 to 3, `c[j]` at 8 to 17, `CMD` at 31. -/
def wordIndexWf (index : Nat) : Bool :=
  decide (index < 4) || (decide (8 ≤ index) && decide (index < 18)) || index == 31

/-- A host action the spec gives a meaning. `CMD` can be written and not read (rule R68: `HostRead` is
"for any of `x[0..3]`, `c[0..9]`"). -/
def Action.wf : Action → Bool
  | .write r _ => r.wf
  | .read r => r.wf
  | .start cmd => legalCommands.contains cmd
  | .copy dst src => dst.wf && src.wf
  | .wordWrite index v =>
    wordIndexWf index && (index != 31 || legalCommands.contains (v.setWidth 8))
  | .wordRead index => wordIndexWf index && index != 31
  | .reset => true

end Sys2Proof
end

