-- ==== Sys2Proof/Decode.lean ====
section
/-! DEFINITION. The command word, both ways (rules R80 to R84), and the mnemonics of rule R81. The decoder
is total on 8-bit words and rejects each reserved word by the reason rule R84 gives for it. -/

namespace Sys2Proof

/-- Why a command word is reserved (rule R84). -/
inductive DecodeError where
  /-- `op` is `0x7` to `0xF`. -/
  | reservedOp
  /-- `z` is not `00`. -/
  | nonzeroZ
  /-- `sel` is not `00` in a group whose `sel` must be `00`. -/
  | nonzeroSel
  /-- `INIT` with wiring code 3 (rule R83). -/
  | reservedWiring
  deriving DecidableEq, Repr

/-- Field `op`, bits 7:4 (rule R80). -/
def opField (w : BitVec 8) : BitVec 4 := w.extractLsb' 4 4

/-- Field `z`, bits 3:2 (rule R80). -/
def zField (w : BitVec 8) : BitVec 2 := w.extractLsb' 2 2

/-- Field `sel`, bits 1:0 (rule R80). -/
def selField (w : BitVec 8) : BitVec 2 := w.extractLsb' 0 2

/-- The curve a code names; all four codes are legal (rule R82). -/
def Curve.ofCode (c : BitVec 2) : Curve :=
  match c.toNat with
  | 0 => .pt385
  | 1 => .pt391
  | 2 => .cu428
  | _ => .ni617

/-- The code of a curve (rule R82). -/
def Curve.code : Curve → BitVec 2
  | .pt385 => 0#2
  | .pt391 => 1#2
  | .cu428 => 2#2
  | .ni617 => 3#2

/-- The wiring a code names; code 3 is reserved (rule R83). -/
def Wiring.ofCode (c : BitVec 2) : Option Wiring :=
  match c.toNat with
  | 0 => some .w2
  | 1 => some .w3
  | 2 => some .w4
  | _ => none

/-- `R2T` of a curve (rule R81). -/
def Instr.r2t : Curve → Instr
  | .pt385 => .r2tPt385
  | .pt391 => .r2tPt391
  | .cu428 => .r2tCu428
  | .ni617 => .r2tNi617

/-- `T2R` of a curve (rule R81). -/
def Instr.t2r : Curve → Instr
  | .pt385 => .t2rPt385
  | .pt391 => .t2rPt391
  | .cu428 => .t2rCu428
  | .ni617 => .t2rNi617

/-- `INIT` of a wiring (rule R81). -/
def Instr.initOf : Wiring → Instr
  | .w2 => .init2w
  | .w3 => .init3w
  | .w4 => .init4w

/-- A group whose `sel` must be `00` (rule R81). -/
def decodePlain (sel : BitVec 2) (i : Instr) : Except DecodeError Instr :=
  if sel = 0#2 then .ok i else .error .nonzeroSel

/-- The group `INIT` (rules R81, R83). -/
def decodeInit (sel : BitVec 2) : Except DecodeError Instr :=
  match Wiring.ofCode sel with
  | some w => .ok (Instr.initOf w)
  | none => .error .reservedWiring

/-- The decoder: by the `op` table of rule R81 once `z` is known to be `00`. -/
def decode (w : BitVec 8) : Except DecodeError Instr :=
  if 7 ≤ (opField w).toNat then .error .reservedOp
  else if zField w ≠ 0#2 then .error .nonzeroZ
  else
    match (opField w).toNat with
    | 0 => .ok (Instr.r2t (Curve.ofCode (selField w)))
    | 1 => .ok (Instr.t2r (Curve.ofCode (selField w)))
    | 2 => decodePlain (selField w) .cal
    | 3 => decodePlain (selField w) .conv
    | 4 => decodePlain (selField w) .acq
    | 5 => decodeInit (selField w)
    | _ => decodePlain (selField w) .rdcfg

/-- The `op` column of rule R81. -/
def Instr.op : Instr → BitVec 4
  | .r2tPt385 | .r2tPt391 | .r2tCu428 | .r2tNi617 => 0x0#4
  | .t2rPt385 | .t2rPt391 | .t2rCu428 | .t2rNi617 => 0x1#4
  | .cal => 0x2#4
  | .conv => 0x3#4
  | .acq => 0x4#4
  | .init2w | .init3w | .init4w => 0x5#4
  | .rdcfg => 0x6#4

/-- The `sel` column of rule R81: a curve code (rule R82), a wiring code (rule R83) or `00`. -/
def Instr.sel : Instr → BitVec 2
  | .r2tPt385 | .t2rPt385 => 0#2
  | .r2tPt391 | .t2rPt391 => 1#2
  | .r2tCu428 | .t2rCu428 => 2#2
  | .r2tNi617 | .t2rNi617 => 3#2
  | .init2w => 0#2
  | .init3w => 1#2
  | .init4w => 2#2
  | .cal | .conv | .acq | .rdcfg => 0#2

/-- The encoder: the command word `{op, 00, sel}` of rule R80. -/
def encode (i : Instr) : BitVec 8 := i.op ++ 0#2 ++ i.sel

/-- The mnemonics of rule R81, as spec/opcode_table.json spells them. -/
def Instr.mnemonic : Instr → String
  | .r2tPt385 => "R2T.PT385"
  | .r2tPt391 => "R2T.PT391"
  | .r2tCu428 => "R2T.CU428"
  | .r2tNi617 => "R2T.NI617"
  | .t2rPt385 => "T2R.PT385"
  | .t2rPt391 => "T2R.PT391"
  | .t2rCu428 => "T2R.CU428"
  | .t2rNi617 => "T2R.NI617"
  | .cal => "CAL"
  | .conv => "CONV"
  | .acq => "ACQ"
  | .init2w => "INIT.2W"
  | .init3w => "INIT.3W"
  | .init4w => "INIT.4W"
  | .rdcfg => "RDCFG"

/-- The instruction the decoder reads from an opcode-table row's word of `nbits` bits. Every bit above
`nbits` is 0; a command word has 8 bits (rule R80), so bits 7:0 are the whole instruction. -/
def decodeTableWord (nbits w : Nat) : Option Instr :=
  match decode (BitVec.ofNat 8 (w % 2 ^ nbits)) with
  | .ok i => some i
  | .error _ => none

end Sys2Proof
end

