-- ==== Sys2Proof/Config.lean ====
section
/-! DEFINITION. What is fixed outside RTDCORE's own state: the shape of the OPEN parameters of rule R7
(`K`, `R_REF`, `TMO`), the shape of one answer of the transport (rule R51), and the free values: constants
with no body, so that no proof can know what they are. The parameters' default values and the fixed
constants of rule R7 stand in Machine/Params.lean. -/

namespace Sys2Proof

/-- The coefficients of a curve with a quartic branch: platinum and copper (rule R111). -/
structure QuarticCoeffs where
  a : F
  b : F
  c : F
  d1 : F
  d2 : F
  d3 : F
  d4 : F
  deriving DecidableEq, Repr

/-- The coefficients of nickel, whose polynomial has three terms (rules R111, R115). -/
structure CubicCoeffs where
  a : F
  b : F
  c : F
  d1 : F
  d2 : F
  d3 : F
  deriving DecidableEq, Repr

/-- The coefficient table `K` (rules R7, R111). -/
structure CoeffTable where
  pt385 : QuarticCoeffs
  pt391 : QuarticCoeffs
  cu428 : QuarticCoeffs
  ni617 : CubicCoeffs
  deriving DecidableEq, Repr

/-- The OPEN parameters of rule R7: "configuration of the instance, fixed for its lifetime; no operation
writes them" (rule R42). `tmo` is in opaque time units and only passed on (rule R54). -/
structure Params where
  k : CoeffTable
  rRef : F
  tmo : Nat
  deriving DecidableEq, Repr

/-- The two kinds of transport failure (rules R51, R190): TransportTimeout and TransportError. -/
inductive FailKind where
  | timeout
  | error
  deriving DecidableEq, Repr, Inhabited

/-- The result of one transport call without its data (rule R51). -/
inductive Transfer where
  | ok
  | fail (k : FailKind)
  deriving DecidableEq, Repr, Inhabited

/-- What the environment answers to one transport call (rules R51, R60). A transmit uses `outcome`. A
successful receive also delivers `bytes`, first received first; a byte the answer does not fix is free. -/
structure Reply where
  outcome : Transfer
  bytes : List Byte
  deriving DecidableEq, Repr, Inhabited

/-- FREE VALUE. The transport and the front-end chip as an oracle (rules R51, R60; U20): the answer to a
transport call the pending script does not fix. The argument is the draw counter of State. -/
opaque Config.freeReply : Nat → Reply

/-- FREE VALUE. Any 64 bits, for every value the spec calls unspecified (U6, U12, U13, U14) and for a
received byte the answer does not fix (U20). The argument is the draw counter of State. -/
opaque Config.freeBits : Nat → BitVec 64

end Sys2Proof
end

