-- ==== Sys2Proof/Machine/Float.lean ====
section
/-! DEFINITION. The arithmetic of format `F`: IEEE 754 binary64, round to nearest even, one rounding per
operation, nothing fused (rules R7, R10; decisions D1, D5, D6). Every operation computes the exact result
in Nat or Int and rounds once, in `roundMag`. Finite values are counted in units of `2^-1074`, the least
positive binary64 number, of which every finite binary64 number is a whole multiple. The operations are irreducible: a proof
unfolds one by name (`unfold fAdd`), and comparing two states never computes with them. -/

namespace Sys2Proof.Machine

/-- Bits 62:0 of a pattern: exponent and fraction, as one number. It grows with the absolute value. -/
def magOf (a : F) : Nat := a.toNat % 2 ^ 63

/-- Bit 63 of a pattern: the sign (rule R89). -/
def negOf (a : F) : Bool := decide (2 ^ 63 ≤ a.toNat)

/-- Exponent and fraction of an infinity: exponent all ones, fraction zero. -/
def infMag : Nat := 2047 * 2 ^ 52

/-- `isNaN` (rule R10): exponent all ones and a fraction that is not zero. -/
def fIsNaN (a : F) : Bool := decide (infMag < magOf a)

/-- An infinity of either sign. -/
def fIsInf (a : F) : Bool := magOf a == infMag

/-- The NaN that stands for "not-a-number" INSIDE an expression tree. Which NaN a result register receives
is free (rule R10, decision D4): Machine/Ops.lean replaces any NaN by `sentinel` when it writes it. -/
def qnan : F := 0x7FF8000000000000#64

/-- A pattern from its sign and its bits 62:0. -/
def pack (neg : Bool) (mag : Nat) : F := BitVec.ofNat 64 ((if neg then 2 ^ 63 else 0) + mag)

/-- The absolute value of the finite number whose bits 62:0 are `mag`, in units of `2^-1074`. -/
def unitsOf (mag : Nat) : Nat :=
  if mag / 2 ^ 52 = 0 then mag % 2 ^ 52 else (2 ^ 52 + mag % 2 ^ 52) * 2 ^ (mag / 2 ^ 52 - 1)

/-- A finite number in units of `2^-1074`, with its sign. -/
def signedUnits (a : F) : Int := if negOf a then -(unitsOf (magOf a) : Int) else (unitsOf (magOf a) : Int)

/-- 1 when `t + r/q` lies above `t + 1/2`, or on it with `t` odd (ties go to even), else 0. -/
def roundsUp (t r q : Nat) : Nat := if q < 2 * r ∨ (2 * r = q ∧ t % 2 = 1) then 1 else 0

/-- Bits 62:0 of the binary64 number nearest to `n / d` units, ties to even; infinity above the range.
`sh` is how many of the low bits of the quotient the 53-bit significand cannot hold. -/
@[irreducible] def roundMag (n d : Nat) : Nat :=
  let sh := Nat.log2 (n / d) - 52
  let q := d * 2 ^ sh
  min (sh * 2 ^ 52 + (n / q + roundsUp (n / q) (n % q) q)) infMag

/-- The binary64 number nearest to `n / d`: how a decimal literal denotes a value (rule R10). -/
@[irreducible] def fOfRatio (n d : Nat) : F := pack false (roundMag (n * 2 ^ 1074) d)

/-- `ofNat` of rule R10; exact below `2^53`. -/
@[irreducible] def fOfNat (n : Nat) : F := if n = 0 then 0#64 else fOfRatio n 1

/-- The sign turned around. -/
def fNeg (a : F) : F := a ^^^ 0x8000000000000000#64

/-- Binary64 `+`. An exact zero sum is `-0` only when both operands are negative zeros. -/
@[irreducible] def fAdd (a b : F) : F :=
  if fIsNaN a || fIsNaN b then qnan
  else if fIsInf a then (if fIsInf b && (negOf a != negOf b) then qnan else a)
  else if fIsInf b then b
  else
    let v := signedUnits a + signedUnits b
    if v = 0 then pack (negOf a && negOf b) 0 else pack (decide (v < 0)) (roundMag v.natAbs 1)

/-- Binary64 `-`. -/
def fSub (a b : F) : F := fAdd a (fNeg b)

/-- Binary64 `*`. -/
@[irreducible] def fMul (a b : F) : F :=
  if fIsNaN a || fIsNaN b then qnan
  else if fIsInf a || fIsInf b then
    (if magOf a = 0 ∨ magOf b = 0 then qnan else pack (negOf a != negOf b) infMag)
  else pack (negOf a != negOf b) (roundMag (unitsOf (magOf a) * unitsOf (magOf b)) (2 ^ 1074))

/-- Binary64 `/`: `x/0` is an infinity, `0/0` and `inf/inf` are NaN (rule R120, decision D5). -/
@[irreducible] def fDiv (a b : F) : F :=
  if fIsNaN a || fIsNaN b then qnan
  else if fIsInf a then (if fIsInf b then qnan else pack (negOf a != negOf b) infMag)
  else if fIsInf b then pack (negOf a != negOf b) 0
  else if magOf b = 0 then (if magOf a = 0 then qnan else pack (negOf a != negOf b) infMag)
  else pack (negOf a != negOf b) (roundMag (unitsOf (magOf a) * 2 ^ 1074) (unitsOf (magOf b)))

/-- The binary digits of the integer square root of `n`, from digit `b - 1` down, added to `r`. -/
def sqrtDigits (n : Nat) : Nat → Nat → Nat
  | 0, r => r
  | b + 1, r =>
    if (r + 2 ^ b) * (r + 2 ^ b) ≤ n then sqrtDigits n b (r + 2 ^ b) else sqrtDigits n b r

/-- Bits 62:0 of the square root of `u` units (`u` not 0). The exact root is `√(u * 2^1074)` units. Its
leading 57 bits are `r`; a root that has further bits is told from one that has not by one bit more. -/
def sqrtMag (u : Nat) : Nat :=
  let n := u * 2 ^ 1074
  let k := (Nat.log2 n - 112) / 2
  let r := sqrtDigits (n / 4 ^ k) 57 0
  roundMag ((2 * r + (if r * r * 4 ^ k = n then 0 else 1)) * 2 ^ k) 2

/-- Binary64 `sqrt`: NaN for a negative operand (the sentinel, rule R116), and `sqrt(±0) = ±0`. -/
@[irreducible] def fSqrt (a : F) : F :=
  if fIsNaN a then qnan
  else if magOf a = 0 then a
  else if negOf a then qnan
  else if fIsInf a then a
  else pack false (sqrtMag (unitsOf (magOf a)))

/-- Bits 62:0 with the sign of bit 63: an order-preserving image of the numbers and infinities, on which
`+0` and `-0` fall together. -/
def orderKey (a : F) : Int := if negOf a then -(magOf a : Int) else (magOf a : Int)

/-- Binary64 `<`; false when an operand is NaN (decision D6). -/
@[irreducible] def fLt (a b : F) : Bool := !fIsNaN a && !fIsNaN b && decide (orderKey a < orderKey b)

/-- Binary64 `=`; false when an operand is NaN (rule R117, decision D6). -/
@[irreducible] def fEq (a b : F) : Bool := !fIsNaN a && !fIsNaN b && decide (orderKey a = orderKey b)

end Sys2Proof.Machine
end

