-- ==== Sys2Proof/Machine/Params.lean ====
section
/-! DEFINITION. The values of rule R7: the fixed constants (addresses, configuration bytes, literals of
the curves) and the defaults of the OPEN parameters. A decimal literal is written as the ratio it stands
for and denotes the nearest binary64 number (rule R10). -/

namespace Sys2Proof.Machine

/-- `FRAME_LEN`. -/
def frameLen : Nat := 7
/-- `ADDR_DATA`: the address byte of the data read (rule R85). -/
def addrData : Byte := 0x01#8
/-- `ADDR_CFG_RD`: the address byte of the configuration read (rule R85). -/
def addrCfgRd : Byte := 0x00#8
/-- `ADDR_CFG_WR`: the address byte of the configuration write (rule R85). -/
def addrCfgWr : Byte := 0x80#8
/-- `CFG_24W`: the configuration byte for 2- or 4-wire (rule R83). -/
def cfg24w : Byte := 0xC3#8
/-- `CFG_3W`: the configuration byte for 3-wire (rule R83). -/
def cfg3w : Byte := 0xD3#8
/-- `RECOV_CFG`: the configuration byte of the recovery action (rule R87). -/
def recovCfg : Byte := 0xD3#8

/-- `cfg_byte` of rule R83. -/
def cfgByte : Wiring → Byte
  | .w2 => cfg24w
  | .w3 => cfg3w
  | .w4 => cfg24w

/-- `CODE_DIV`, `32768.0`. -/
def codeDiv : F := fOfNat 32768
/-- The literal `0.0`. -/
def fZero : F := 0x0000000000000000#64
/-- The literal `1.0`. -/
def fOne : F := fOfNat 1
/-- The literal `2.0`. -/
def fTwo : F := fOfNat 2
/-- The literal `4.0`. -/
def fFour : F := fOfNat 4
/-- The literal `100.0` (`PT_T0`, `NI_T0`, `DEF_R0` and the first entry of `NI_TS`). -/
def fHundred : F := fOfNat 100
/-- The literal `500.0` of `NI_TS`. -/
def fFiveHundred : F := fOfNat 500
/-- The literal `1000.0` of `NI_TS`. -/
def fThousand : F := fOfNat 1000
/-- `NI_TS` at `100`: `161.72`. -/
def niTs100 : F := fOfRatio 16172 100
/-- `NI_TS` at `500`: `808.59`, DOC0's literal (90_conflicts.md C10). -/
def niTs500 : F := fOfRatio 80859 100
/-- `NI_TS` at `1000`: `1617.2`. -/
def niTs1000 : F := fOfRatio 16172 10
/-- `NI_X0`: `1.6172`. -/
def niX0 : F := fOfRatio 16172 10000
/-- `CU_K`: `6.7`. -/
def cuK : F := fOfRatio 67 10

/-- The default coefficient table of rule R111. PRESUMED (general knowledge, G1): log entry 4. -/
def defaultK : CoeffTable where
  pt385 :=
    { a := fOfRatio 39083 10000000
      b := fNeg (fOfRatio 5775 10000000000)
      c := fNeg (fOfRatio 4183 1000000000000000)
      d1 := fOfRatio 255819 1000
      d2 := fOfRatio 914550 100000
      d3 := fNeg (fOfRatio 292363 100000)
      d4 := fOfRatio 179090 100000 }
  pt391 :=
    { a := fOfRatio 39690 10000000
      b := fNeg (fOfRatio 5841 10000000000)
      c := fNeg (fOfRatio 4330 1000000000000000)
      d1 := fOfRatio 251903 1000
      d2 := fOfRatio 880035 100000
      d3 := fNeg (fOfRatio 291506 100000)
      d4 := fOfRatio 167611 100000 }
  cu428 :=
    { a := fOfRatio 428 100000
      b := fNeg (fOfRatio 62032 100000000000)
      c := fOfRatio 85154 100000000000000
      d1 := fOfRatio 23387 100
      d2 := fOfRatio 79370 10000
      d3 := fNeg (fOfRatio 20062 10000)
      d4 := fNeg (fOfRatio 3953 10000) }
  ni617 :=
    { a := fOfRatio 54963 10000000
      b := fOfRatio 67556 10000000000
      c := fOfRatio 92004 10000000000000
      d1 := fOfRatio 144096 1000
      d2 := fNeg (fOfRatio 25502 1000)
      d3 := fOfRatio 44876 10000 }

/-- The OPEN parameters at their defaults: `K` of rule R111, `R_REF = 428.5`, `TMO = 100` (rule R7). -/
def defaultParams : Params where
  k := defaultK
  rRef := fOfRatio 4285 10
  tmo := 100

end Sys2Proof.Machine
end

