-- ==== Sys2Proof/Machine/State.lean ====
section
/-! DEFINITION. The state of RTDCORE as plain data (rules R20 to R42), what surrounds it as data (the host's
remaining program, the transport's answers, the parameters of the unit), the reasons a step can stop, and the state
after reset (rule R40). -/

namespace Sys2Proof.Machine

/-- The sequencer phases of rule R23. -/
inductive Phase where
  | idle
  | exec
  | rdTx
  | rdRx
  | decode
  | faultDet
  | recover
  | compute
  | cfgTx
  | rcTx
  | rcRx
  deriving DecidableEq, Repr

/-- The chip-select line `CS` (rule R37). -/
inductive ChipSelect where
  | released
  | asserted
  deriving DecidableEq, Repr

/-- The outcome of a receive with the bytes it delivered (rule R51). -/
inductive RxResult where
  | ok (bytes : List Byte)
  | fail (k : FailKind)
  deriving DecidableEq, Repr

/-- One event of the bus trace (rule R38). -/
inductive BusEvent where
  | csAssert
  | tx (bytes : List Byte) (timeout : Nat) (outcome : Transfer)
  | rx (count : Nat) (timeout : Nat) (outcome : RxResult)
  | csRelease
  deriving DecidableEq, Repr

/-- The seven bytes of the frame, `b0` received first (rules R36, R56). -/
structure Frame where
  b0 : Byte
  b1 : Byte
  b2 : Byte
  b3 : Byte
  b4 : Byte
  b5 : Byte
  b6 : Byte
  deriving DecidableEq, Repr

/-- The state. Each field names the rule of spec/ it follows. -/
structure State where
  /-- `x[0]` = `A`, primary operand (rule R20). -/
  x0 : F
  /-- `x[1]` = `B`, reference resistance `R0` (rule R20). -/
  x1 : F
  /-- `x[2]` = `Y`, result (rule R20). -/
  x2 : F
  /-- `x[3]` = `OHM`, resistance of the last `ACQ` (rule R20). -/
  x3 : F
  /-- `c[0]` `CAL_OFFSET` (rule R28). -/
  calOffset : F
  /-- `c[1]` `CAL_SLOPE` (rule R29). -/
  calSlope : F
  /-- `c[2]` `R0CFG` (rule R30). -/
  r0cfg : F
  /-- `c[3]` `CURVE` (rule R31). -/
  curve : BitVec 2
  /-- `FAULT`, bit 0 of `c[4]` `STATUS` (rules R24, R32). -/
  fault : Bool
  /-- `VALID`, bit 1 of `STATUS` (rules R25, R32). -/
  valid : Bool
  /-- `ERR`, bit 2 of `STATUS` (rules R26, R32). -/
  err : Bool
  /-- `CAUSE`, bits 4:3 of `STATUS` (rules R26, R32). -/
  cause : BitVec 2
  /-- `c[5]` `RTDCODE` (rule R33). -/
  rtdcode : BitVec 15
  /-- `c[6]` `HFT` (rule R33). -/
  hft : BitVec 15
  /-- `c[7]` `LFT` (rule R33). -/
  lft : BitVec 16
  /-- `c[8]` `FSTAT` (rule R33). -/
  fstat : BitVec 8
  /-- `c[9]` `CFGRD` (rule R34). -/
  cfgrd : BitVec 8
  /-- The frame buffer `FB[0..6]`, hidden (rule R36). -/
  fb : Frame
  /-- The chip-select line `CS` (rule R37). -/
  cs : ChipSelect
  /-- The sequencer phase register `seq` (rule R23). -/
  seq : Phase
  /-- The command port `CMD`: the command word last accepted (rules R50, R68). -/
  cmd : BitVec 8
  /-- The bus trace, ghost state (rule R38), oldest event first. -/
  trace : List BusEvent
  /-- The parameters of this RTDCORE (rules R7, R42). -/
  params : Params
  /-- The lines the host has still to perform, next first (rule R96). -/
  program : List Action
  /-- Ghost: what the host has read so far, oldest first (rule R68). -/
  reads : List (HostReg × BitVec 64)
  /-- The answers of the transport that are fixed in advance, next first (rules R51, R60). When none is
  left the answers are free. -/
  script : List Reply
  /-- The MODEL's own: how many free values have been drawn. -/
  draws : Nat
  deriving DecidableEq, Repr

/-- Why a step can stop with a fault. Nothing the spec describes is fatal (rule R199). -/
inductive Fault where
  /-- Raised by the sequencer (Machine/Sequencer.lean) in a phase that does not belong to the operation the
  command port holds, and by nothing else. No operation leads to such a state (rules R110, R168, R170,
  R171), so the spec gives it no next state. Safe. -/
  | sequencerStuck
  deriving DecidableEq, Repr

/-- Why an action has no meaning. -/
inductive Refusal where
  /-- Raised only by an arm of `exec` whose operation has no meaning yet. Safe. -/
  | notModelled (mnemonic : String)
  /-- Raised by the start of a reserved command word (rules R84, R207; U16). Safe. -/
  | reservedCommand (cmd : BitVec 8)
  /-- Raised by every operation and every host access while another operation is in flight: "a model refuses a
  host action in any other phase" (rule R68; U17). Safe. -/
  | hostBlocked
  /-- Raised by a host access to a register that does not exist (rule R39). Safe. -/
  | noSuchRegister (r : HostReg)
  /-- Raised by a host access to a word index without meaning, or by a read of the command port (rule R68).
  Safe. -/
  | noSuchWord (index : Nat)
  /-- Raised by a reset in the middle of an operation (rule R220; U19). Safe. -/
  | resetInOperation
  deriving DecidableEq, Repr

/-- The state after reset (rules R40, R221). The registers rule R40 calls unspecified hold zero (DESIGN
CHOICE, log entry 1); the parameters hold their defaults (log entries 4 and 5); the host has
no line to perform and no answer of the transport is fixed (log entry 6). -/
def State.reset : State where
  x0 := fZero
  x1 := fZero
  x2 := fZero
  x3 := fZero
  calOffset := fZero
  calSlope := fOne
  r0cfg := fHundred
  curve := 0#2
  fault := false
  valid := false
  err := false
  cause := 0#2
  rtdcode := 0#15
  hft := 0#15
  lft := 0#16
  fstat := 0#8
  cfgrd := 0#8
  fb := { b0 := 0#8, b1 := 0#8, b2 := 0#8, b3 := 0#8, b4 := 0#8, b5 := 0#8, b6 := 0#8 }
  cs := .released
  seq := .idle
  cmd := 0#8
  trace := []
  params := defaultParams
  program := []
  reads := []
  script := []
  draws := 0

end Sys2Proof.Machine
end

