-- ==== Sys2Proof/Machine/Flags.lean ====
section
/-! DEFINITION. The status flags: how `ERR` and `CAUSE` report a bus operation (rule R26), the layout of
`STATUS` (rule R32), the fault decision (rule R88). There are no arithmetic condition codes (rule R27). -/

namespace Sys2Proof.Machine

/-- `FAULT <- v` (rule R24). -/
def State.setFault (s : State) (v : Bool) : State := { s with fault := v }

/-- `VALID <- v` (rule R25). -/
def State.setValid (s : State) (v : Bool) : State := { s with valid := v }

/-- `ERR <- e`, `CAUSE <- c` (rule R26). -/
def State.setErrCause (s : State) (e : Bool) (c : BitVec 2) : State := { s with err := e, cause := c }

/-- The `CAUSE` code of a transport failure: 1 TransportTimeout, 2 TransportError (rules R26, R190). -/
def causeCode : FailKind → BitVec 2
  | .timeout => 1#2
  | .error => 2#2

/-- `ERR <- 0`, `CAUSE <- 0`: every sub-transfer of the operation returned Ok (rule R26). -/
def reportOk (s : State) : State := s.setErrCause false 0#2

/-- `ERR <- 1`, `CAUSE <- ` the kind of the failure (rule R26). -/
def reportFailure (k : FailKind) (s : State) : State := s.setErrCause true (causeCode k)

/-- `ERR` and `CAUSE` from the result of the one transfer of an operation (rule R170). -/
def reportTransfer (r : Transfer) (s : State) : State :=
  match r with
  | .ok => reportOk s
  | .fail k => reportFailure k s

/-- `STATUS`: bit 0 `FAULT`, bit 1 `VALID`, bit 2 `ERR`, bits 4:3 `CAUSE`, bits 7:5 zero (rule R32). -/
def statusByte (s : State) : BitVec 8 :=
  0#3 ++ s.cause ++ BitVec.ofBool s.err ++ BitVec.ofBool s.valid ++ BitVec.ofBool s.fault

/-- The fault decision: `FSTAT != 0`, whatever bits are set (rule R88). -/
def faulted (s : State) : Bool := s.fstat != 0#8

end Sys2Proof.Machine
end

