-- ==== Sys2Proof/Machine/Ops.lean ====
section
/-! DEFINITION. The shared operations: the field updates the meanings are made of, the drawing of free
values, the writing of results, the transport primitives and the two transactions (rules R51 to R53), and
the raising of an exception (rules R167, R197). RTDCORE has no handler, so there is nothing to return
from: an operation that raised ends in `IDLE` and the next one starts like any other (rule R198). -/

namespace Sys2Proof.Machine

/-! ### Field updates -/

/-- Write `x[0]`. -/
def State.setX0 (s : State) (v : F) : State := { s with x0 := v }
/-- Write `x[1]`. -/
def State.setX1 (s : State) (v : F) : State := { s with x1 := v }
/-- Write `x[2]`. -/
def State.setX2 (s : State) (v : F) : State := { s with x2 := v }
/-- Write `x[3]`. -/
def State.setX3 (s : State) (v : F) : State := { s with x3 := v }
/-- Write `CAL_OFFSET`. -/
def State.setCalOffset (s : State) (v : F) : State := { s with calOffset := v }
/-- Write `CAL_SLOPE`. -/
def State.setCalSlope (s : State) (v : F) : State := { s with calSlope := v }
/-- Write `R0CFG`. -/
def State.setR0cfg (s : State) (v : F) : State := { s with r0cfg := v }
/-- Write `CURVE`. -/
def State.setCurve (s : State) (v : BitVec 2) : State := { s with curve := v }
/-- Write the four decoded-frame registers. -/
def State.setDecoded (s : State) (code hft : BitVec 15) (lft : BitVec 16) (fstat : BitVec 8) : State :=
  { s with rtdcode := code, hft := hft, lft := lft, fstat := fstat }
/-- Write `CFGRD`. -/
def State.setCfgrd (s : State) (v : BitVec 8) : State := { s with cfgrd := v }
/-- Write the frame buffer. -/
def State.setFb (s : State) (v : Frame) : State := { s with fb := v }
/-- Drive the chip-select line. -/
def State.setCs (s : State) (v : ChipSelect) : State := { s with cs := v }
/-- `seq <- PHASE` (rule R11). -/
def State.setSeq (s : State) (v : Phase) : State := { s with seq := v }
/-- Write the command port. -/
def State.setCmd (s : State) (v : BitVec 8) : State := { s with cmd := v }
/-- Append one event to the bus trace (rule R51). -/
def State.pushEvent (s : State) (e : BusEvent) : State := { s with trace := s.trace ++ [e] }
/-- The lines the host has still to perform. -/
def State.setProgram (s : State) (v : List Action) : State := { s with program := v }
/-- Note what the host has read. -/
def State.pushRead (s : State) (r : HostReg) (v : BitVec 64) : State := { s with reads := s.reads ++ [(r, v)] }
/-- The answers of the transport still fixed in advance. -/
def State.setScript (s : State) (v : List Reply) : State := { s with script := v }
/-- Advance the draw counter: `n` free values have been used. -/
def State.advance (s : State) (n : Nat) : State := { s with draws := s.draws + n }

/-! ### Free values -/

/-- Sign and fraction are free, the exponent is all ones, the fraction is not zero: any NaN, and nothing
but a NaN (decision D4, U6). -/
@[irreducible] def nanOfBits (b : BitVec 64) : F :=
  if b &&& 0x000FFFFFFFFFFFFF#64 = 0#64 then b ||| 0x7FF0000000000001#64 else b ||| 0x7FF0000000000000#64

/-- The sentinel as draw `n` gives it. -/
def sentinel (n : Nat) : F := nanOfBits (Config.freeBits n)

/-- A value on its way into a result register: itself, or the sentinel where it is a NaN (rule R10). -/
@[irreducible] def settle (n : Nat) (v : F) : F := if fIsNaN v then sentinel n else v

/-- `x[2] <- v` (rule R20). -/
def writeResult (v : F) (s : State) : State := (s.setX2 (settle s.draws v)).advance 1

/-- `x[2]`, `x[3]` become unspecified (U12, U13). -/
def loseResults (s : State) : State :=
  ((s.setX2 (Config.freeBits s.draws)).setX3 (Config.freeBits (s.draws + 1))).advance 2

/-- A frame of any bytes. -/
def frameOfBits (b : BitVec 64) : Frame where
  b0 := b.extractLsb' 0 8
  b1 := b.extractLsb' 8 8
  b2 := b.extractLsb' 16 8
  b3 := b.extractLsb' 24 8
  b4 := b.extractLsb' 32 8
  b5 := b.extractLsb' 40 8
  b6 := b.extractLsb' 48 8

/-- `FB` and the four decoded-frame registers become unspecified (U12). -/
def loseFrame (s : State) : State :=
  ((s.setFb (frameOfBits (Config.freeBits s.draws))).setDecoded
    ((Config.freeBits (s.draws + 1)).setWidth 15) ((Config.freeBits (s.draws + 2)).setWidth 15)
    ((Config.freeBits (s.draws + 3)).setWidth 16) ((Config.freeBits (s.draws + 4)).setWidth 8)).advance 5

/-- `CFGRD` becomes unspecified (U14). -/
def loseCfgrd (s : State) : State := (s.setCfgrd ((Config.freeBits s.draws).setWidth 8)).advance 1

/-! ### The transport primitives (rule R51) -/

/-- `CsAssert()`. -/
def csAssert (s : State) : State := (s.setCs .asserted).pushEvent .csAssert

/-- `CsRelease()`. -/
def csRelease (s : State) : State := (s.setCs .released).pushEvent .csRelease

/-- What the environment answers to the next transport call: as the script says, else freely (rule R60). -/
def nextReply (s : State) : Reply :=
  match s.script with
  | r :: _ => r
  | [] => Config.freeReply s.draws

/-- The answer has been used. -/
def dropReply (s : State) : State := (s.setScript s.script.tail).advance 1

/-- `BusTx(bytes, TMO)`: the state after the call. Its result is `(nextReply s).outcome`. -/
def busTx (bytes : List Byte) (s : State) : State :=
  (dropReply s).pushEvent (.tx bytes s.params.tmo (nextReply s).outcome)

/-- The `n` bytes a successful receive delivers: exactly `n` (rule R58), those the answer does not fix
free. -/
def rxBytes (n : Nat) (s : State) : List Byte :=
  (List.range n).map fun k =>
    ((nextReply s).bytes[k]?).getD ((Config.freeBits (s.draws + 1 + k)).setWidth 8)

/-- The result of `BusRx(n, TMO)`. -/
def rxResult (n : Nat) (s : State) : RxResult :=
  match (nextReply s).outcome with
  | .ok => .ok (rxBytes n s)
  | .fail k => .fail k

/-- `BusRx(n, TMO)`: the state after the call. Its result is `rxResult n s`. -/
def busRx (n : Nat) (s : State) : State :=
  ((dropReply s).advance n).pushEvent (.rx n s.params.tmo (rxResult n s))

/-! ### The transactions (rules R52, R53) -/

/-- `MemRead(addr, n)`: its result and the state after it (rule R52). -/
def memRead (addr : Byte) (n : Nat) (s : State) : RxResult × State :=
  let s1 := csAssert s
  let s2 := busTx [addr] s1
  match (nextReply s1).outcome with
  | .fail k => (.fail k, csRelease s2)
  | .ok => (rxResult n s2, csRelease (busRx n s2))

/-- `MemWrite(addr, n, v)`: its result and the state after it (rule R53). -/
def memWrite (addr : Byte) (v : List Byte) (s : State) : Transfer × State :=
  let s1 := csAssert s
  ((nextReply s1).outcome, csRelease (busTx (addr :: v) s1))

/-! ### Exceptions (rules R167, R197) -/

/-- What both exceptions of `ACQ` share: the failure is reported, the reading is not valid, `x[2]` and `x[3]`
become unspecified, and the operation ends: `seq <- IDLE` (rule R167). -/
def abortAcquisition (k : FailKind) (s : State) : State :=
  loseResults (((reportFailure k s).setValid false).setSeq .idle)

/-- `raise Transport(kind)`: the data read failed (rule R167 (a)). `FAULT` is not written. -/
def raiseTransport (k : FailKind) (s : State) : State := abortAcquisition k (loseFrame s)

/-- `raise RecoveryTransport(kind)`: the recovery write failed (rule R167 (b)). The frame and the decoded
registers keep their values; `FAULT` has been cleared already. -/
def raiseRecoveryTransport (k : FailKind) (s : State) : State := abortAcquisition k s

/-! ### Starting an operation (rules R23, R68) -/

/-- An operation as one step from `IDLE` to `IDLE` (rule R160), with the effect `f`. The host can start it
in `IDLE` only; "a model refuses a host action in any other phase" (rule R68). -/
def operate (f : State → State) (s : State) : Host.Outcome State Fault Refusal :=
  if s.seq = .idle then .next (f s) else .refused .hostBlocked

end Sys2Proof.Machine
end

