-- ==== Sys2Proof/Machine/Operands.lean ====
section
/-! DEFINITION. Where operands come from: the fields of a frame (rule R86), the curve the binding names
(rules R31, R82), the host's view of the registers (rules R20, R39, R68, R89) and the word indices of a
memory-mapped realisation (rule R68). The four operand registers are State's fields x0, x1, x2, x3. -/

namespace Sys2Proof.Machine

/-- The bytes of a receive as a frame, first received first (rule R56). A 7-byte receive delivers exactly
seven bytes (rule R58), so the 0 after the end of the list is never used. -/
def Frame.ofBytes (l : List Byte) : Frame where
  b0 := l.getD 0 0#8
  b1 := l.getD 1 0#8
  b2 := l.getD 2 0#8
  b3 := l.getD 3 0#8
  b4 := l.getD 4 0#8
  b5 := l.getD 5 0#8
  b6 := l.getD 6 0#8

/-- The bytes of a frame in the order of arrival. -/
def Frame.toBytes (f : Frame) : List Byte := [f.b0, f.b1, f.b2, f.b3, f.b4, f.b5, f.b6]

/-- `RTDCODE = (((b0 << 8) | b1) >> 1)`, 15 bits (rule R86). -/
def Frame.rtdcode (f : Frame) : BitVec 15 := ((f.b0 ++ f.b1) >>> 1).setWidth 15

/-- `HFT = (((b2 << 8) | b3) >> 1)`, 15 bits (rule R86). -/
def Frame.hft (f : Frame) : BitVec 15 := ((f.b2 ++ f.b3) >>> 1).setWidth 15

/-- `LFT = ((b4 << 8) | b5)`, 16 bits, not shifted (rule R86, 90_conflicts.md C7). -/
def Frame.lft (f : Frame) : BitVec 16 := f.b4 ++ f.b5

/-- `FSTAT = b6` (rule R86). -/
def Frame.fstat (f : Frame) : BitVec 8 := f.b6

/-- The curve `CONV` and `ACQ` use (rule R31). -/
def boundCurve (s : State) : Curve := Curve.ofCode s.curve

/-- The value of a register as the host reads it: 64 bits, an integer register zero-extended; none where
the register does not exist (rules R20, R39, R89). -/
def readHostReg (s : State) : HostReg → Option (BitVec 64)
  | .x 0 => some s.x0
  | .x 1 => some s.x1
  | .x 2 => some s.x2
  | .x 3 => some s.x3
  | .x _ => none
  | .c 0 => some s.calOffset
  | .c 1 => some s.calSlope
  | .c 2 => some s.r0cfg
  | .c 3 => some (s.curve.setWidth 64)
  | .c 4 => some ((statusByte s).setWidth 64)
  | .c 5 => some (s.rtdcode.setWidth 64)
  | .c 6 => some (s.hft.setWidth 64)
  | .c 7 => some (s.lft.setWidth 64)
  | .c 8 => some (s.fstat.setWidth 64)
  | .c 9 => some (s.cfgrd.setWidth 64)
  | .c _ => none

/-- The state after the host writes a register: `x[0]`, `x[1]`, `c[0..2]` take the value, `CURVE` its low
two bits, every other register that exists ignores the write; none where the register does not exist (rules
R31, R39, R68). -/
def writeHostReg (s : State) (r : HostReg) (v : BitVec 64) : Option State :=
  match r with
  | .x 0 => some (s.setX0 v)
  | .x 1 => some (s.setX1 v)
  | .c 0 => some (s.setCalOffset v)
  | .c 1 => some (s.setCalSlope v)
  | .c 2 => some (s.setR0cfg v)
  | .c 3 => some (s.setCurve (v.setWidth 2))
  | .x i => if i < 4 then some s else none
  | .c j => if j < 10 then some s else none

/-- The register at a word index: `x[i]` at 0 to 3, `c[j]` at 8 to 17 (rule R68). -/
def regOfWord (index : Nat) : Option HostReg :=
  if index < 4 then some (.x index)
  else if 8 ≤ index ∧ index < 18 then some (.c (index - 8))
  else none

/-- The word index of the command port `CMD` (rule R68). -/
def cmdWord : Nat := 31

end Sys2Proof.Machine
end

