-- ==== Sys2Proof/Machine/Curves.lean ====
section
/-! DEFINITION. The pure functions of POLY and CALC: the expression trees of rules R112 to R117, R131 to
R134, R150, R151 and R164, evaluated exactly as parenthesised (rule R10, decision D2). They read no state
(rule R41) and check no range (rule R118). They are irreducible: a proof unfolds one by name, and comparing
two states never computes with them. -/

namespace Sys2Proof.Machine

/-- `RATIO(R, R0) = R / R0` (rule R116). -/
def ratio (r r0 : F) : F := fDiv r r0

/-- `POLY4(D, x)` (rule R116). -/
@[irreducible] def poly4 (k : QuarticCoeffs) (x : F) : F :=
  fAdd (fAdd (fAdd (fMul k.d1 x) (fMul k.d2 (fMul x x))) (fMul k.d3 (fMul (fMul x x) x)))
    (fMul k.d4 (fMul (fMul (fMul x x) x) x))

/-- `POLY3(D, x)` (rule R116). -/
@[irreducible] def poly3 (k : CubicCoeffs) (x : F) : F :=
  fAdd (fAdd (fMul k.d1 x) (fMul k.d2 (fMul x x))) (fMul k.d3 (fMul (fMul x x) x))

/-- The radicand of `QROOT` (rule R116). -/
def radicand (a b w : F) : F := fSub (fMul a a) (fMul (fMul fFour b) (fSub fOne w))

/-- `QROOT(A, B, W)`: NaN for a negative radicand, which is NumericDomainError (rules R116, R194). -/
@[irreducible] def qroot (a b w : F) : F := fDiv (fSub (fSqrt (radicand a b w)) a) (fMul fTwo b)

/-- `TEMP_START(R0)` (rule R117). -/
@[irreducible] def tempStart (r0 : F) : F :=
  if fEq r0 fHundred then niTs100
  else if fEq r0 fFiveHundred then niTs500
  else if fEq r0 fThousand then niTs1000
  else fZero

/-- Platinum, resistance to temperature (rules R112, R113). -/
@[irreducible] def platinumTemp (k : QuarticCoeffs) (r r0 : F) : F :=
  if fLt r r0 then poly4 k (fSub (ratio r r0) fOne) else qroot k.a k.b (ratio r r0)

/-- Copper, resistance to temperature (rule R114). -/
@[irreducible] def copperTemp (k : QuarticCoeffs) (r r0 : F) : F :=
  if fLt r r0 then poly4 k (fSub (ratio r r0) fOne) else fDiv (fSub (ratio r r0) fOne) k.a

/-- Nickel, resistance to temperature (rule R115). -/
@[irreducible] def nickelTemp (k : CubicCoeffs) (r r0 : F) : F :=
  if fLt r (tempStart r0) then qroot k.a k.b (ratio r r0)
  else fAdd fHundred (poly3 k (fSub (ratio r r0) niX0))

/-- `R2T[curve](R, R0)`: the function a curve code selects (rules R112 to R115, R151). -/
@[irreducible] def curveTemp (k : CoeffTable) (c : Curve) (r r0 : F) : F :=
  match c with
  | .pt385 => platinumTemp k.pt385 r r0
  | .pt391 => platinumTemp k.pt391 r r0
  | .cu428 => copperTemp k.cu428 r r0
  | .ni617 => nickelTemp k.ni617 r r0

/-- `(1.0 + (A*T)) + ((B*T)*T)`, the quadratic form of rules R131 and R134. -/
@[irreducible] def quadForm (a b t : F) : F := fAdd (fAdd fOne (fMul a t)) (fMul (fMul b t) t)

/-- Platinum, temperature to resistance (rules R131, R132). -/
@[irreducible] def platinumOhms (k : QuarticCoeffs) (t r0 : F) : F :=
  if fLt t fZero then
    fMul r0 (fAdd (quadForm k.a k.b t) (fMul (fMul (fMul (fMul k.c (fSub t fHundred)) t) t) t))
  else fMul r0 (quadForm k.a k.b t)

/-- Copper, temperature to resistance (rule R133). -/
@[irreducible] def copperOhms (k : QuarticCoeffs) (t r0 : F) : F :=
  if fLt t fZero then
    fMul r0
      (fAdd (fAdd (fAdd fOne (fMul k.a t)) (fMul (fMul k.b t) (fAdd t cuK)))
        (fMul (fMul (fMul k.c t) t) t))
  else fMul r0 (fAdd fOne (fMul k.a t))

/-- Nickel, temperature to resistance (rule R134). -/
@[irreducible] def nickelOhms (k : CubicCoeffs) (t r0 : F) : F :=
  if fLt t fHundred then fMul r0 (quadForm k.a k.b t)
  else fMul r0 (fAdd (quadForm k.a k.b t) (fMul (fMul (fMul k.c (fSub t fHundred)) t) t))

/-- The calibration, two roundings (rule R150). -/
@[irreducible] def calibrate (t slope offset : F) : F := fAdd (fMul t slope) offset

/-- Resistance in ohms from the RTD code (rules R90, R164). -/
@[irreducible] def ohmsOfCode (code : BitVec 15) (rRef : F) : F := fDiv (fMul (fOfNat code.toNat) rRef) codeDiv

/-- The bound conversion of rules R151 and R166: the bound curve with `R0CFG`, then the calibration. -/
@[irreducible] def boundTemp (s : State) (r : F) : F :=
  calibrate (curveTemp s.params.k (boundCurve s) r s.r0cfg) s.calSlope s.calOffset

end Sys2Proof.Machine
end

