-- ==== Sys2Proof/Machine/Acquisition.lean ====
section
/-! DEFINITION. `ACQ` as one step from `IDLE` to `IDLE` (rules R160 to R167). Its phase-by-phase form
(rule R168) stands in Machine/Sequencer.lean; the pieces below are shared by the two. -/

namespace Sys2Proof.Machine

/-- Step 3: the four fields of `FB` into the decoded-frame registers (rule R162). -/
def decodeFrame (s : State) : State :=
  s.setDecoded (Frame.rtdcode s.fb) (Frame.hft s.fb) (Frame.lft s.fb) (Frame.fstat s.fb)

/-- Steps 5 and 6: `x[3]`, `VALID`, `x[2]`, and the report that every sub-transfer was Ok (rules R164 to
R166, R26). The operation ends: `seq <- IDLE`. -/
def deliver (s : State) : State :=
  let ohms := settle s.draws (ohmsOfCode s.rtdcode s.params.rRef)
  let temp := settle (s.draws + 1) (boundTemp s ohms)
  ((reportOk (((s.setX3 ohms).setX2 temp).setValid (!faulted s))).setSeq .idle).advance 2

/-- Step 4 of a faulted frame: `FAULT` is raised, exactly one recovery write is sent, `FAULT` is cleared
whatever came of it (rule R163), and the operation goes on or ends (rule R167 (b)). -/
def recoverAndDeliver (s : State) : State :=
  match memWrite addrCfgWr [recovCfg] (s.setFault true) with
  | (.ok, s1) => deliver (s1.setFault false)
  | (.fail k, s1) => raiseRecoveryTransport k (s1.setFault false)

/-- The effect of `ACQ` (rule R160). -/
def effAcq (s : State) : State :=
  match memRead addrData frameLen s with
  | (.fail k, s1) => raiseTransport k s1
  | (.ok bytes, s1) =>
    let s2 := decodeFrame (s1.setFb (Frame.ofBytes bytes))
    if faulted s2 then recoverAndDeliver s2 else deliver s2

/-- `ACQ`, command `0x40` (rule R160). -/
def execAcq (s : State) : Host.Outcome State Fault Refusal := operate effAcq s

end Sys2Proof.Machine
end

