-- ==== Sys2Proof/Machine/Calibration.lean ====
section
/-! DEFINITION. The calibration corrector `CAL` (rule R150) and the bound conversion `CONV` (rule R151).
Each writes `x[2]` only. -/

namespace Sys2Proof.Machine

/-- The effect of `CAL` (rule R150). -/
def effCal (s : State) : State := writeResult (calibrate s.x0 s.calSlope s.calOffset) s

/-- The effect of `CONV` (rule R151); `x[1]` is not read. -/
def effConv (s : State) : State := writeResult (boundTemp s s.x0) s

/-- `CAL`, command `0x20` (rule R150). -/
def execCal (s : State) : Host.Outcome State Fault Refusal := operate effCal s

/-- `CONV`, command `0x30` (rule R151). -/
def execConv (s : State) : Host.Outcome State Fault Refusal := operate effConv s

end Sys2Proof.Machine
end

