-- ==== Sys2Proof/Machine/Configuration.lean ====
section
/-! DEFINITION. The configuration transactions: `INIT.2W`, `INIT.3W`, `INIT.4W` (rules R170, R174 to R176)
and `RDCFG` (rule R171), each as one step from `IDLE` to `IDLE`. -/

namespace Sys2Proof.Machine

/-- The common form of `INIT.*`: one configuration write, `ERR` and `CAUSE` from its result (rule R170). -/
def effInit (w : Wiring) (s : State) : State :=
  match memWrite addrCfgWr [cfgByte w] s with
  | (r, s1) => reportTransfer r s1

/-- The effect of `RDCFG` (rule R171). -/
def effRdcfg (s : State) : State :=
  match memRead addrCfgRd 1 s with
  | (.ok bytes, s1) => reportOk (s1.setCfgrd (bytes.getD 0 0#8))
  | (.fail k, s1) => loseCfgrd (reportFailure k s1)

/-- `INIT.2W`, command `0x50` (rule R174). -/
def execInit2w (s : State) : Host.Outcome State Fault Refusal := operate (effInit .w2) s

/-- `INIT.3W`, command `0x51` (rule R175). -/
def execInit3w (s : State) : Host.Outcome State Fault Refusal := operate (effInit .w3) s

/-- `INIT.4W`, command `0x52` (rule R176). -/
def execInit4w (s : State) : Host.Outcome State Fault Refusal := operate (effInit .w4) s

/-- `RDCFG`, command `0x60` (rule R171). -/
def execRdcfg (s : State) : Host.Outcome State Fault Refusal := operate effRdcfg s

end Sys2Proof.Machine
end

