-- ==== Sys2Proof/Machine/Forward.lean ====
section
/-! DEFINITION. Resistance to temperature: `R2T.PT385`, `R2T.PT391`, `R2T.CU428`, `R2T.NI617` (rules R110,
R112 to R115). Each reads `x[0]`, `x[1]` and `K`, and writes `x[2]` only. -/

namespace Sys2Proof.Machine

/-- The effect of `R2T.PT385` (rule R112). -/
def effR2tPt385 (s : State) : State := writeResult (platinumTemp s.params.k.pt385 s.x0 s.x1) s

/-- The effect of `R2T.PT391` (rule R113). -/
def effR2tPt391 (s : State) : State := writeResult (platinumTemp s.params.k.pt391 s.x0 s.x1) s

/-- The effect of `R2T.CU428` (rule R114). -/
def effR2tCu428 (s : State) : State := writeResult (copperTemp s.params.k.cu428 s.x0 s.x1) s

/-- The effect of `R2T.NI617` (rule R115). -/
def effR2tNi617 (s : State) : State := writeResult (nickelTemp s.params.k.ni617 s.x0 s.x1) s

/-- `R2T.PT385`, command `0x00` (rule R112). -/
def execR2tPt385 (s : State) : Host.Outcome State Fault Refusal := operate effR2tPt385 s

/-- `R2T.PT391`, command `0x01` (rule R113). -/
def execR2tPt391 (s : State) : Host.Outcome State Fault Refusal := operate effR2tPt391 s

/-- `R2T.CU428`, command `0x02` (rule R114). -/
def execR2tCu428 (s : State) : Host.Outcome State Fault Refusal := operate effR2tCu428 s

/-- `R2T.NI617`, command `0x03` (rule R115). -/
def execR2tNi617 (s : State) : Host.Outcome State Fault Refusal := operate effR2tNi617 s

end Sys2Proof.Machine
end

