-- ==== Sys2Proof/Machine/Inverse.lean ====
section
/-! DEFINITION. Temperature to resistance: `T2R.PT385`, `T2R.PT391`, `T2R.CU428`, `T2R.NI617` (rules R130
to R134). Each reads `x[0]`, `x[1]` and `K`, and writes `x[2]` only. -/

namespace Sys2Proof.Machine

/-- The effect of `T2R.PT385` (rule R131). -/
def effT2rPt385 (s : State) : State := writeResult (platinumOhms s.params.k.pt385 s.x0 s.x1) s

/-- The effect of `T2R.PT391` (rule R132). -/
def effT2rPt391 (s : State) : State := writeResult (platinumOhms s.params.k.pt391 s.x0 s.x1) s

/-- The effect of `T2R.CU428` (rule R133). -/
def effT2rCu428 (s : State) : State := writeResult (copperOhms s.params.k.cu428 s.x0 s.x1) s

/-- The effect of `T2R.NI617` (rule R134). -/
def effT2rNi617 (s : State) : State := writeResult (nickelOhms s.params.k.ni617 s.x0 s.x1) s

/-- `T2R.PT385`, command `0x10` (rule R131). -/
def execT2rPt385 (s : State) : Host.Outcome State Fault Refusal := operate effT2rPt385 s

/-- `T2R.PT391`, command `0x11` (rule R132). -/
def execT2rPt391 (s : State) : Host.Outcome State Fault Refusal := operate effT2rPt391 s

/-- `T2R.CU428`, command `0x12` (rule R133). -/
def execT2rCu428 (s : State) : Host.Outcome State Fault Refusal := operate effT2rCu428 s

/-- `T2R.NI617`, command `0x13` (rule R134). -/
def execT2rNi617 (s : State) : Host.Outcome State Fault Refusal := operate effT2rNi617 s

end Sys2Proof.Machine
end

