-- ==== Sys2Proof/Machine/Dispatch.lean ====
section
/-! DEFINITION. One arm per operation (rule R81), each one call of its meaning. -/

namespace Sys2Proof.Machine

/-- An operation as one step from `IDLE` to `IDLE` (rule R160). -/
def exec (i : Instr) (s : State) : Host.Outcome State Fault Refusal :=
  match i with
  | .r2tPt385 => Sys2Proof.Machine.execR2tPt385 s
  | .r2tPt391 => Sys2Proof.Machine.execR2tPt391 s
  | .r2tCu428 => Sys2Proof.Machine.execR2tCu428 s
  | .r2tNi617 => Sys2Proof.Machine.execR2tNi617 s
  | .t2rPt385 => Sys2Proof.Machine.execT2rPt385 s
  | .t2rPt391 => Sys2Proof.Machine.execT2rPt391 s
  | .t2rCu428 => Sys2Proof.Machine.execT2rCu428 s
  | .t2rNi617 => Sys2Proof.Machine.execT2rNi617 s
  | .cal => Sys2Proof.Machine.execCal s
  | .conv => Sys2Proof.Machine.execConv s
  | .acq => Sys2Proof.Machine.execAcq s
  | .init2w => Sys2Proof.Machine.execInit2w s
  | .init3w => Sys2Proof.Machine.execInit3w s
  | .init4w => Sys2Proof.Machine.execInit4w s
  | .rdcfg => Sys2Proof.Machine.execRdcfg s

end Sys2Proof.Machine
end

