-- ==== Sys2Proof/Machine/Sequencer.lean ====
section
/-! DEFINITION. The small-step form: one phase of the sequencer at a time (rules R23, R110, R130, R150,
R151, R168, R170, R171). Between two ticks an outside observer may sample `FAULT` and `CS` (rule R168).
`exec` runs the same operation in one step (rule R160: the two give "the same end state and the same bus
trace"). -/

namespace Sys2Proof.Machine

/-- The effect of the operations whose phase sequence is `IDLE -> EXEC -> IDLE` (rules R110, R130, R150,
R151). -/
def pureEffect : Instr → Option (State → State)
  | .r2tPt385 => some effR2tPt385
  | .r2tPt391 => some effR2tPt391
  | .r2tCu428 => some effR2tCu428
  | .r2tNi617 => some effR2tNi617
  | .t2rPt385 => some effT2rPt385
  | .t2rPt391 => some effT2rPt391
  | .t2rCu428 => some effT2rCu428
  | .t2rNi617 => some effT2rNi617
  | .cal => some effCal
  | .conv => some effConv
  | .acq => none
  | .init2w => none
  | .init3w => none
  | .init4w => none
  | .rdcfg => none

/-- The wiring an `INIT` names (rule R83). -/
def initWiring : Instr → Option Wiring
  | .init2w => some .w2
  | .init3w => some .w3
  | .init4w => some .w4
  | .r2tPt385 | .r2tPt391 | .r2tCu428 | .r2tNi617 => none
  | .t2rPt385 | .t2rPt391 | .t2rCu428 | .t2rNi617 => none
  | .cal | .conv | .acq | .rdcfg => none

/-- Leaving `IDLE` for the operation's first phase (rules R110, R168, R170, R171). -/
def firstPhase (i : Instr) (s : State) : State :=
  match i with
  | .r2tPt385 | .r2tPt391 | .r2tCu428 | .r2tNi617 => s.setSeq .exec
  | .t2rPt385 | .t2rPt391 | .t2rCu428 | .t2rNi617 => s.setSeq .exec
  | .cal | .conv => s.setSeq .exec
  | .acq => (csAssert s).setSeq .rdTx
  | .init2w | .init3w | .init4w => s.setSeq .cfgTx
  | .rdcfg => (csAssert s).setSeq .rcTx

/-- `Start(cmd)` phase by phase: the command port takes the word and the sequencer leaves `IDLE`. -/
def launch (i : Instr) (s : State) : Host.Outcome State Fault Refusal :=
  if s.seq = .idle then .next (firstPhase i (s.setCmd (encode i))) else .refused .hostBlocked

/-- The operation the command port holds, where it is one of the pure ones. -/
def heldEffect (s : State) : Option (State → State) :=
  match decode s.cmd with
  | .ok i => pureEffect i
  | .error _ => none

/-- The wiring the command port holds, where it holds an `INIT`. -/
def heldWiring (s : State) : Option Wiring :=
  match decode s.cmd with
  | .ok i => initWiring i
  | .error _ => none

/-- Phase `EXEC` (rules R110, R130, R150, R151). -/
def tickExec (s : State) : Host.Outcome State Fault Refusal :=
  match heldEffect s with
  | some f => .next ((f s).setSeq .idle)
  | none => .fault .sequencerStuck

/-- Phase `RD_TX` (rule R168). -/
def tickRdTx (s : State) : State :=
  match (nextReply s).outcome with
  | .ok => (busTx [addrData] s).setSeq .rdRx
  | .fail k => raiseTransport k (csRelease (busTx [addrData] s))

/-- Phase `RD_RX` (rule R168). -/
def tickRdRx (s : State) : State :=
  match rxResult frameLen s with
  | .ok bytes => ((csRelease (busRx frameLen s)).setFb (Frame.ofBytes bytes)).setSeq .decode
  | .fail k => raiseTransport k (csRelease (busRx frameLen s))

/-- Phase `DECODE` (rule R168). -/
def tickDecode (s : State) : State :=
  let s1 := decodeFrame s
  s1.setSeq (if faulted s1 then .faultDet else .compute)

/-- Phase `FAULT_DET` (rule R168). -/
def tickFaultDet (s : State) : State := (s.setFault true).setSeq .recover

/-- Phase `RECOVER` (rule R168). -/
def tickRecover (s : State) : State :=
  match memWrite addrCfgWr [recovCfg] s with
  | (.ok, s1) => (s1.setFault false).setSeq .compute
  | (.fail k, s1) => raiseRecoveryTransport k (s1.setFault false)

/-- Phase `CFG_TX` (rule R170). -/
def tickCfgTx (s : State) : Host.Outcome State Fault Refusal :=
  match heldWiring s with
  | some w => .next ((effInit w s).setSeq .idle)
  | none => .fault .sequencerStuck

/-- Phase `RC_TX` (rule R171). -/
def tickRcTx (s : State) : State :=
  match (nextReply s).outcome with
  | .ok => (busTx [addrCfgRd] s).setSeq .rcRx
  | .fail k => (loseCfgrd (reportFailure k (csRelease (busTx [addrCfgRd] s)))).setSeq .idle

/-- Phase `RC_RX` (rule R171). -/
def tickRcRx (s : State) : State :=
  match rxResult 1 s with
  | .ok bytes => (reportOk ((csRelease (busRx 1 s)).setCfgrd (bytes.getD 0 0#8))).setSeq .idle
  | .fail k => (loseCfgrd (reportFailure k (csRelease (busRx 1 s)))).setSeq .idle

/-- One phase. In `IDLE` RTDCORE waits for the host (rule R40). -/
def tick (s : State) : Host.Outcome State Fault Refusal :=
  match s.seq with
  | .idle => .next s
  | .exec => tickExec s
  | .rdTx => .next (tickRdTx s)
  | .rdRx => .next (tickRdRx s)
  | .decode => .next (tickDecode s)
  | .faultDet => .next (tickFaultDet s)
  | .recover => .next (tickRecover s)
  | .compute => .next (deliver s)
  | .cfgTx => tickCfgTx s
  | .rcTx => .next (tickRcTx s)
  | .rcRx => .next (tickRcRx s)

/-- At most `n` ticks, stopping in `IDLE`. -/
def ticks : Nat → State → Host.Outcome State Fault Refusal
  | 0, s => .next s
  | n + 1, s =>
    if s.seq = .idle then .next s
    else
      match tick s with
      | .next s1 => ticks n s1
      | .fault f => .fault f
      | .refused r => .refused r

/-- An operation phase by phase, from `IDLE` to `IDLE`. The longest, a faulted `ACQ`, has six phases after
`IDLE` (rule R168). -/
def runPhases (i : Instr) (s : State) : Host.Outcome State Fault Refusal :=
  match launch i s with
  | .next s1 => ticks 6 s1
  | .fault f => .fault f
  | .refused r => .refused r

/-- What a diagnostic observer sees between phases (rules R65, R168). -/
def observe (s : State) : Bool × ChipSelect := (s.fault, s.cs)

end Sys2Proof.Machine
end

