-- ==== Sys2Proof/Machine/HostPort.lean ====
section
/-! DEFINITION. The host's actions (rules R68, R95, R96) and the reset event (rule R220). -/

namespace Sys2Proof.Machine

/-- Guard of every host action: it is legal in `IDLE` only (rule R68, hazard `H10`). -/
def inIdle (s : State) (k : Host.Outcome State Fault Refusal) : Host.Outcome State Fault Refusal :=
  if s.seq = .idle then k else .refused .hostBlocked

/-- `HostWrite(reg, v)` (rule R68). -/
def hostWrite (r : HostReg) (v : BitVec 64) (s : State) : Host.Outcome State Fault Refusal :=
  inIdle s
    (match writeHostReg s r v with
    | some s1 => .next s1
    | none => .refused (.noSuchRegister r))

/-- `HostRead(reg)`: no side effect on RTDCORE; the model notes what the host saw (rule R68). -/
def hostRead (r : HostReg) (s : State) : Host.Outcome State Fault Refusal :=
  inIdle s
    (match readHostReg s r with
    | some v => .next (s.pushRead r v)
    | none => .refused (.noSuchRegister r))

/-- The pseudo-operation `MOV dst, src`: `HR src`, then `HW dst, <value read>` (rule R96). -/
def hostCopy (dst src : HostReg) (s : State) : Host.Outcome State Fault Refusal :=
  inIdle s
    (match readHostReg s src with
    | none => .refused (.noSuchRegister src)
    | some v => hostWrite dst v (s.pushRead src v))

/-- `Start(cmd)`: the command port takes the word and the operation it encodes runs; a reserved word starts
nothing and changes nothing (rules R68, R84). -/
def hostStart (w : BitVec 8) (s : State) : Host.Outcome State Fault Refusal :=
  inIdle s
    (match decode w with
    | .ok i => exec i (s.setCmd w)
    | .error _ => .refused (.reservedCommand w))

/-- A write at a word index: the register there, or at index 31 the command port, which takes the low 8
bits (rule R68). -/
def hostWordWrite (index : Nat) (v : BitVec 64) (s : State) : Host.Outcome State Fault Refusal :=
  if index = cmdWord then hostStart (v.setWidth 8) s
  else
    match regOfWord index with
    | some r => hostWrite r v s
    | none => inIdle s (.refused (.noSuchWord index))

/-- A read at a word index (rule R68). -/
def hostWordRead (index : Nat) (s : State) : Host.Outcome State Fault Refusal :=
  match regOfWord index with
  | some r => hostRead r s
  | none => inIdle s (.refused (.noSuchWord index))

/-- The state a reset leaves: `State.reset` (rules R40, R220) with what is not RTDCORE's own state kept:
the parameters, fixed for its lifetime (rule R42), the host's remaining lines and readings, and the
transport's answers. -/
def afterReset (s : State) : State :=
  { State.reset with
    params := s.params
    program := s.program
    reads := s.reads
    script := s.script
    draws := s.draws }

/-- The reset event. In the middle of an operation it is outside the model (rule R220, U19). -/
def resetEvent (s : State) : Host.Outcome State Fault Refusal :=
  if s.seq = .idle then .next (afterReset s) else .refused .resetInOperation

/-- One action. -/
def perform (a : Action) (s : State) : Host.Outcome State Fault Refusal :=
  match a with
  | .write r v => hostWrite r v s
  | .read r => hostRead r s
  | .start w => hostStart w s
  | .copy dst src => hostCopy dst src s
  | .wordWrite index v => hostWordWrite index v s
  | .wordRead index => hostWordRead index s
  | .reset => resetEvent s

end Sys2Proof.Machine
end

