-- ==== Sys2Proof/Machine/Step.lean ====
section
/-! DEFINITION. One step of RTDCORE with its host. In `IDLE` the host performs its next line, an operation
running to completion (rules R62, R96); with no line left RTDCORE waits (rule R40). In any other phase the
host is blocked and the sequencer moves on by one phase (rules R23, R68). -/

namespace Sys2Proof.Machine

/-- One step. -/
def step (s : State) : Host.Outcome State Fault Refusal :=
  if s.seq = .idle then
    match s.program with
    | [] => .next s
    | a :: rest => perform a (s.setProgram rest)
  else tick s

/-- RTDCORE fetches nothing (rule R22): the next command word is the one the host's next line starts. So
an instruction word is placed as that line, before the lines already there, with the sequencer in `IDLE`. -/
def State.withFetchWord (s : State) (nbits w : Nat) : State :=
  (s.setProgram (.start (BitVec.ofNat 8 (w % 2 ^ nbits)) :: s.program)).setSeq .idle

end Sys2Proof.Machine
end

