-- ==== Sys2Proof/Machine/Assembler.lean ====
section
/-! DEFINITION. The assembler syntax of rule R95 and the pseudo-operations of rule R96: a line of text as the
host actions it stands for, and the command bytes a program assembles to. Text is a list of characters.
No instruction's meaning depends on this file. -/

namespace Sys2Proof.Machine

/-- Why a line is not a line of rule R95. -/
inductive AsmError where
  | badLine
  | badRegister
  | badValue
  deriving DecidableEq, Repr

/-- The command bytes a program assembles to: an operation line its one byte, every other line none (rule
R95). -/
def commandBytes (p : List Action) : List (BitVec 8) :=
  p.flatMap fun a =>
    match a with
    | .start w => [w]
    | .write _ _ => []
    | .read _ => []
    | .copy _ _ => []
    | .wordWrite _ _ => []
    | .wordRead _ => []
    | .reset => []

/-- The text before a comment: `;` starts one (rule R95). -/
def asmCode : List Char → List Char
  | [] => []
  | ch :: rest => if ch = ';' then [] else ch :: asmCode rest

/-- The words of a line, which blanks, tabs and commas part alike (DESIGN CHOICE, log entry 20). `w` is the word so
far. -/
def asmSplit : List Char → List Char → List (List Char)
  | w, [] => if w.isEmpty then [] else [w]
  | w, ch :: rest =>
    if ch = ' ' ∨ ch = ',' ∨ ch = '\t' then
      (if w.isEmpty then asmSplit [] rest else w :: asmSplit [] rest)
    else asmSplit (w ++ [ch]) rest

/-- The entry of a table under a word. -/
def asmFind {α : Type} (w : List Char) : List (List Char × α) → Option α
  | [] => none
  | (k, v) :: rest => if k = w then some v else asmFind w rest

/-- The mnemonics of rule R81. -/
def asmMnemonics : List (List Char × Instr) :=
  [(['R', '2', 'T', '.', 'P', 'T', '3', '8', '5'], .r2tPt385),
   (['R', '2', 'T', '.', 'P', 'T', '3', '9', '1'], .r2tPt391),
   (['R', '2', 'T', '.', 'C', 'U', '4', '2', '8'], .r2tCu428),
   (['R', '2', 'T', '.', 'N', 'I', '6', '1', '7'], .r2tNi617),
   (['T', '2', 'R', '.', 'P', 'T', '3', '8', '5'], .t2rPt385),
   (['T', '2', 'R', '.', 'P', 'T', '3', '9', '1'], .t2rPt391),
   (['T', '2', 'R', '.', 'C', 'U', '4', '2', '8'], .t2rCu428),
   (['T', '2', 'R', '.', 'N', 'I', '6', '1', '7'], .t2rNi617),
   (['C', 'A', 'L'], .cal),
   (['C', 'O', 'N', 'V'], .conv),
   (['A', 'C', 'Q'], .acq),
   (['I', 'N', 'I', 'T', '.', '2', 'W'], .init2w),
   (['I', 'N', 'I', 'T', '.', '3', 'W'], .init3w),
   (['I', 'N', 'I', 'T', '.', '4', 'W'], .init4w),
   (['R', 'D', 'C', 'F', 'G'], .rdcfg)]

/-- The curve names of rule R82. -/
def asmCurves : List (List Char × Curve) :=
  [(['P', 'T', '3', '8', '5'], .pt385), (['P', 'T', '3', '9', '1'], .pt391),
   (['C', 'U', '4', '2', '8'], .cu428), (['N', 'I', '6', '1', '7'], .ni617)]

/-- The register names of rules R39 and R95. -/
def asmRegs : List (List Char × HostReg) :=
  [(['x', '0'], .x 0), (['x', '1'], .x 1), (['x', '2'], .x 2), (['x', '3'], .x 3),
   (['c', '0'], .c 0), (['c', '1'], .c 1), (['c', '2'], .c 2), (['c', '3'], .c 3),
   (['c', '4'], .c 4), (['c', '5'], .c 5), (['c', '6'], .c 6), (['c', '7'], .c 7),
   (['c', '8'], .c 8), (['c', '9'], .c 9),
   (['C', 'A', 'L', '_', 'O', 'F', 'F', 'S', 'E', 'T'], .c 0),
   (['C', 'A', 'L', '_', 'S', 'L', 'O', 'P', 'E'], .c 1),
   (['R', '0', 'C', 'F', 'G'], .c 2),
   (['C', 'U', 'R', 'V', 'E'], .c 3),
   (['S', 'T', 'A', 'T', 'U', 'S'], .c 4),
   (['R', 'T', 'D', 'C', 'O', 'D', 'E'], .c 5),
   (['H', 'F', 'T'], .c 6),
   (['L', 'F', 'T'], .c 7),
   (['F', 'S', 'T', 'A', 'T'], .c 8),
   (['C', 'F', 'G', 'R', 'D'], .c 9)]

/-- The value of a digit below `base`. -/
def asmDigit (base : Nat) (ch : Char) : Option Nat :=
  let n := ch.toNat
  let d := if 48 ≤ n ∧ n ≤ 57 then n - 48 else if 65 ≤ n ∧ n ≤ 70 then n - 55
    else if 97 ≤ n ∧ n ≤ 102 then n - 87 else 99
  if d < base then some d else none

/-- All characters as digits, the most significant first. -/
def asmDigits (base : Nat) : List Char → Option (List Nat)
  | [] => some []
  | ch :: rest =>
    match asmDigit base ch, asmDigits base rest with
    | some d, some ds => some (d :: ds)
    | _, _ => none

/-- The number that digits spell. -/
def asmNumber (base : Nat) (ds : List Nat) : Nat := ds.foldl (fun n d => n * base + d) 0

/-- A whole number in a base; at least one digit. -/
def asmNat (base : Nat) (w : List Char) : Option Nat :=
  match asmDigits base w with
  | some (d :: ds) => some (asmNumber base (d :: ds))
  | _ => none

/-- The parts of a word before and after the first character of a kind. -/
def asmCut (p : Char → Bool) : List Char → List Char × Option (List Char)
  | [] => ([], none)
  | ch :: rest =>
    if p ch then ([], some rest)
    else match asmCut p rest with
      | (before, after) => (ch :: before, after)

/-- A sign and the rest. -/
def asmSign : List Char → Bool × List Char
  | '-' :: rest => (true, rest)
  | '+' :: rest => (false, rest)
  | w => (false, w)

/-- `n * 10^e` with the exponent's sign apart, as the nearest binary64 number (rule R10). -/
def asmScale (n : Nat) (negExp : Bool) (e places : Nat) : F :=
  if negExp then fOfRatio n (10 ^ (places + e)) else fOfRatio (n * 10 ^ e) (10 ^ places)

/-- A decimal literal without sign: digits, optionally a point and digits, optionally `e` and an exponent of
at most three digits (DESIGN CHOICE, log entry 20). -/
def asmDecimalAbs (w : List Char) : Option F :=
  match asmCut (fun ch => ch = 'e' ∨ ch = 'E') w with
  | (mantissa, exponent) =>
    match asmCut (fun ch => ch = '.') mantissa with
    | (whole, fraction) =>
      match asmNat 10 (whole ++ fraction.getD []), exponent with
      | some n, none => some (asmScale n false 0 (fraction.getD []).length)
      | some n, some ex =>
        match asmSign ex with
        | (neg, ds) =>
          if ds.length ≤ 3 then
            (asmNat 10 ds).map fun e => asmScale n neg e (fraction.getD []).length
          else none
      | none, _ => none

/-- A decimal literal as a value of format `F`. -/
def asmDecimal (w : List Char) : Option F :=
  match asmSign w with
  | (neg, rest) => (asmDecimalAbs rest).map fun v => if neg then fNeg v else v

/-- A literal written to a register: for a register of format `F` a decimal literal is a number and a `0x`
literal a pattern; for an integer register both are whole numbers (DESIGN CHOICE, log entry 20). -/
def asmValue (r : HostReg) (w : List Char) : Option (BitVec 64) :=
  match w with
  | '0' :: 'x' :: rest => (asmNat 16 rest).map (BitVec.ofNat 64)
  | _ =>
    match r with
    | .x _ => asmDecimal w
    | .c j => if j < 3 then asmDecimal w else (asmNat 10 w).map (BitVec.ofNat 64)

/-- A host write of a literal. -/
def asmWrite (r : HostReg) (w : List Char) : Except AsmError Action :=
  match asmValue r w with
  | some v => .ok (.write r v)
  | none => .error .badValue

/-- Two literals to two registers, then what follows. -/
def asmWrites (r1 : HostReg) (w1 : List Char) (r2 : HostReg) (w2 : List Char) (rest : List Action) :
    Except AsmError (List Action) :=
  match asmWrite r1 w1, asmWrite r2 w2 with
  | .ok a1, .ok a2 => .ok (a1 :: a2 :: rest)
  | .error e, _ => .error e
  | _, .error e => .error e

/-- A line of one word: an operation. -/
def asmLine1 (w : List Char) : Except AsmError (List Action) :=
  match asmFind w asmMnemonics with
  | some i => .ok [.start (encode i)]
  | none => .error .badLine

/-- A line of two words: `HR <reg>`, `CONVR <R>`, `INIT <n>`. -/
def asmLine2 (w v : List Char) : Except AsmError (List Action) :=
  if w = ['H', 'R'] then
    match asmFind v asmRegs with
    | some r => .ok [.read r]
    | none => .error .badRegister
  else if w = ['C', 'O', 'N', 'V', 'R'] then
    match asmWrite (.x 0) v with
    | .ok a => .ok [a, .start (encode .conv)]
    | .error e => .error e
  else if w = ['I', 'N', 'I', 'T'] then
    if v = ['2'] then .ok [.start (encode .init2w)]
    else if v = ['3'] then .ok [.start (encode .init3w)]
    else if v = ['4'] then .ok [.start (encode .init4w)]
    else .error .badValue
  else .error .badLine

/-- A line of three words: `HW <reg>, <value>`, `MOV <reg>, <reg>` (of any two registers, log entry 21),
`SETCAL <offset>, <slope>`, `SETCURVE <curve>, <R0>`. -/
def asmLine3 (w u v : List Char) : Except AsmError (List Action) :=
  if w = ['H', 'W'] then
    match asmFind u asmRegs with
    | some r => (asmWrite r v).map fun a => [a]
    | none => .error .badRegister
  else if w = ['M', 'O', 'V'] then
    match asmFind u asmRegs, asmFind v asmRegs with
    | some dst, some src => .ok [.copy dst src]
    | _, _ => .error .badRegister
  else if w = ['S', 'E', 'T', 'C', 'A', 'L'] then asmWrites (.c 0) u (.c 1) v []
  else if w = ['S', 'E', 'T', 'C', 'U', 'R', 'V', 'E'] then
    match asmFind u asmCurves with
    | some k => (asmWrite (.c 2) v).map fun a => [.write (.c 3) (k.code.setWidth 64), a]
    | none => .error .badValue
  else .error .badLine

/-- A line of four words: `R2T <curve>, <R>, <R0>` and `T2R <curve>, <T>, <R0>`. -/
def asmLine4 (w k u v : List Char) : Except AsmError (List Action) :=
  match asmFind k asmCurves with
  | none => .error .badLine
  | some c =>
    if w = ['R', '2', 'T'] then asmWrites (.x 0) u (.x 1) v [.start (encode (.r2t c))]
    else if w = ['T', '2', 'R'] then asmWrites (.x 0) u (.x 1) v [.start (encode (.t2r c))]
    else .error .badLine

/-- One line of text as host actions (rules R95, R96). DESIGN CHOICE (log entry 20): a line with no word, blank or
comment-only, of which rule R95 does not speak, is no action; a line with words that is none of those rules' is an error. -/
def asmLine (line : List Char) : Except AsmError (List Action) :=
  match asmSplit [] (asmCode line) with
  | [] => .ok []
  | [w] => asmLine1 w
  | [w, v] => asmLine2 w v
  | [w, u, v] => asmLine3 w u v
  | [w, k, u, v] => asmLine4 w k u v
  | _ => .error .badLine

/-- A program: its lines in order (rule R96). -/
def assemble : List (List Char) → Except AsmError (List Action)
  | [] => .ok []
  | line :: rest =>
    match asmLine line, assemble rest with
    | .ok a, .ok b => .ok (a ++ b)
    | .error e, _ => .error e
    | _, .error e => .error e

end Sys2Proof.Machine
end

