-- ==== Sys2Proof/Safety.lean ====
section
/-! DEFINITION. What a sound state of RTDCORE is, in the terms the claims use: the bus discipline of rules
R37, R51 and R172, the phases in which `FAULT` stands (rules R24, R169), and the bond between the phase
and the operation in flight (rules R110, R168, R170, R171). -/

namespace Sys2Proof.Machine

/-- One event of a well-ordered bus: assert when released, transfer and release when asserted. -/
def busNext (cs : ChipSelect) (e : BusEvent) : Option ChipSelect :=
  match e, cs with
  | .csAssert, .released => some .asserted
  | .csAssert, .asserted => none
  | .tx _ _ _, .asserted => some .asserted
  | .tx _ _ _, .released => none
  | .rx _ _ _, .asserted => some .asserted
  | .rx _ _ _, .released => none
  | .csRelease, .asserted => some .released
  | .csRelease, .released => none

/-- Where a trace leaves the chip-select line; none where the trace breaks the order of rule R51. -/
def busReplay : ChipSelect → List BusEvent → Option ChipSelect
  | cs, [] => some cs
  | cs, e :: rest =>
    match busNext cs e with
    | some cs1 => busReplay cs1 rest
    | none => none

/-- The phases in which a transaction is open between two ticks (rules R168, R171). -/
def phaseHoldsCs : Phase → Bool
  | .rdTx | .rdRx | .rcTx | .rcRx => true
  | .idle | .exec | .decode | .faultDet | .recover | .compute | .cfgTx => false

/-- The phases of a faulted `ACQ` after `DECODE` and before `COMPUTE` (rule R169). -/
def phaseHandlesFault : Phase → Bool
  | .faultDet | .recover => true
  | .idle | .exec | .rdTx | .rdRx | .decode | .compute | .cfgTx | .rcTx | .rcRx => false

/-- Whether a phase belongs to an operation (rules R110, R130, R150, R151, R168, R170, R171). -/
def phaseOf (i : Instr) (p : Phase) : Bool :=
  match i, p with
  | _, .idle => true
  | .acq, .rdTx | .acq, .rdRx | .acq, .decode | .acq, .faultDet | .acq, .recover | .acq, .compute => true
  | .rdcfg, .rcTx | .rdcfg, .rcRx => true
  | .init2w, .cfgTx | .init3w, .cfgTx | .init4w, .cfgTx => true
  | .r2tPt385, .exec | .r2tPt391, .exec | .r2tCu428, .exec | .r2tNi617, .exec => true
  | .t2rPt385, .exec | .t2rPt391, .exec | .t2rCu428, .exec | .t2rNi617, .exec => true
  | .cal, .exec | .conv, .exec => true
  | _, _ => false

/-- The invariant of RTDCORE. -/
structure Invariant (s : State) : Prop where
  /-- `CS` is asserted in exactly the phases that hold a transaction open (rules R37, R168). -/
  csPhase : s.cs = if phaseHoldsCs s.seq then .asserted else .released
  /-- The bus trace keeps the order of rule R51 and ends where the line stands (rules R38, R172). -/
  busOrder : busReplay .released s.trace = some s.cs
  /-- `FAULT` stands in exactly the phase `RECOVER`, between two ticks (rules R24, R169). -/
  faultPhase : s.fault = decide (s.seq = .recover)
  /-- `FAULT_DET` and `RECOVER` are entered on a fault byte that is not zero only (rule R163). -/
  faultByte : phaseHandlesFault s.seq = true → s.fstat ≠ 0#8
  /-- `CAUSE` is 0 without `ERR` and 1 or 2 with it; 3 is never written (rule R26). -/
  causeLegal : (s.err = false ∧ s.cause = 0#2) ∨ (s.err = true ∧ (s.cause = 1#2 ∨ s.cause = 2#2))
  /-- A reading marked valid came from a frame without a fault (rules R25, R165). From `DECODE` to the end of an
  `ACQ` the flag still speaks of the frame before, so the phases after `DECODE` are left out. -/
  validByte :
    s.seq ≠ .faultDet → s.seq ≠ .recover → s.seq ≠ .compute → s.valid = true → s.fstat = 0#8
  /-- The phase belongs to the operation the command port holds (rules R110, R168, R170, R171). -/
  phaseOfCommand : s.seq = .idle ∨ ∃ i, decode s.cmd = .ok i ∧ phaseOf i s.seq = true

/-- An operation has ended: `seq = IDLE`, `CS` released, `FAULT = 0` (rule R225). -/
def Settled (s : State) : Prop := s.seq = .idle ∧ s.cs = .released ∧ s.fault = false

/-! ### What the host must heed (rule R223)

None of these is checked by RTDCORE; each says when the host may rely on what it reads. -/

/-- `H4`: after a transport failure `x[2]`, `x[3]`, the decoded registers and `CFGRD` are not to be used. -/
def resultsUsable (s : State) : Bool := !s.err

/-- `H4`, `H7`: the reading was delivered, and from a frame without a fault. -/
def readingSound (s : State) : Bool := resultsUsable s && s.valid

/-- `H8`: the result is the sentinel (rule R194). -/
def resultIsSentinel (s : State) : Bool := fIsNaN s.x2

/-- `H9`: the forward nickel conversion selects its branches as intended for these `R0` only. -/
def nickelScale (r0 : F) : Bool := fEq r0 fHundred || fEq r0 fFiveHundred || fEq r0 fThousand

/-- `H10`: the host may act. -/
def hostMayAct (s : State) : Bool := s.seq == .idle

/-- Two values of format `F` that differ in which NaN they are at most (decision D4). -/
def SameF (a b : F) : Prop := a = b ∨ (fIsNaN a = true ∧ fIsNaN b = true)

end Sys2Proof.Machine
end

