-- ==== Sys2Proof/Certificates/Slice0/Obligations.lean ====
section
/-! DEFINITION. The statements for the provers, from the numbered rules of spec/. The helpers at the top
write the spec's own trees and literals out once more, so that a statement does not lean on the model's
spelling of them. -/

namespace Sys2Proof.Spec

open Sys2Proof.Machine

/-! ### Literals, by the patterns rule R89 and 95_test_vectors.md give them -/

/-- `1.0` -/
def one : F := 0x3FF0000000000000#64
/-- `2.0` -/
def two : F := 0x4000000000000000#64
/-- `4.0` -/
def four : F := 0x4010000000000000#64
/-- `100.0` -/
def hundred : F := 0x4059000000000000#64
/-- `500.0` -/
def fiveHundred : F := 0x407F400000000000#64
/-- `1000.0` -/
def thousand : F := 0x408F400000000000#64
/-- `32768.0` -/
def codeDivisor : F := 0x40E0000000000000#64
/-- `161.72` -/
def ts100 : F := 0x4064370A3D70A3D7#64
/-- `808.59` -/
def ts500 : F := 0x408944B851EB851F#64
/-- `1617.2` -/
def ts1000 : F := 0x409944CCCCCCCCCD#64
/-- `1.6172` -/
def x0Nickel : F := 0x3FF9E00D1B71758E#64
/-- `6.7` -/
def kCopper : F := 0x401ACCCCCCCCCCCD#64

/-! ### Trees -/

/-- `POLY4` of rule R116. -/
def poly4 (d1 d2 d3 d4 x : F) : F :=
  fAdd (fAdd (fAdd (fMul d1 x) (fMul d2 (fMul x x))) (fMul d3 (fMul (fMul x x) x)))
    (fMul d4 (fMul (fMul (fMul x x) x) x))

/-- `POLY3` of rule R116. -/
def poly3 (d1 d2 d3 x : F) : F :=
  fAdd (fAdd (fMul d1 x) (fMul d2 (fMul x x))) (fMul d3 (fMul (fMul x x) x))

/-- `rad` of rule R116. -/
def rad (a b w : F) : F := fSub (fMul a a) (fMul (fMul four b) (fSub one w))

/-- `QROOT` of rule R116. -/
def qroot (a b w : F) : F := fDiv (fSub (fSqrt (rad a b w)) a) (fMul two b)

/-- `TEMP_START` of rule R117. -/
def tempStart (r0 : F) : F :=
  if fEq r0 hundred then ts100 else if fEq r0 fiveHundred then ts500
  else if fEq r0 thousand then ts1000 else 0#64

/-- The `R2T` function of a curve (rules R112 to R115). -/
def r2t (k : CoeffTable) (c : Curve) (r r0 : F) : F :=
  match c with
  | .pt385 =>
    if fLt r r0 then poly4 k.pt385.d1 k.pt385.d2 k.pt385.d3 k.pt385.d4 (fSub (fDiv r r0) one)
    else qroot k.pt385.a k.pt385.b (fDiv r r0)
  | .pt391 =>
    if fLt r r0 then poly4 k.pt391.d1 k.pt391.d2 k.pt391.d3 k.pt391.d4 (fSub (fDiv r r0) one)
    else qroot k.pt391.a k.pt391.b (fDiv r r0)
  | .cu428 =>
    if fLt r r0 then poly4 k.cu428.d1 k.cu428.d2 k.cu428.d3 k.cu428.d4 (fSub (fDiv r r0) one)
    else fDiv (fSub (fDiv r r0) one) k.cu428.a
  | .ni617 =>
    if fLt r (tempStart r0) then qroot k.ni617.a k.ni617.b (fDiv r r0)
    else fAdd hundred (poly3 k.ni617.d1 k.ni617.d2 k.ni617.d3 (fSub (fDiv r r0) x0Nickel))

/-- The `T2R` function of a curve (rules R131 to R134). -/
def t2r (k : CoeffTable) (c : Curve) (t r0 : F) : F :=
  match c with
  | .pt385 =>
    if fLt t 0#64 then
      fMul r0 (fAdd (fAdd (fAdd one (fMul k.pt385.a t)) (fMul (fMul k.pt385.b t) t))
        (fMul (fMul (fMul (fMul k.pt385.c (fSub t hundred)) t) t) t))
    else fMul r0 (fAdd (fAdd one (fMul k.pt385.a t)) (fMul (fMul k.pt385.b t) t))
  | .pt391 =>
    if fLt t 0#64 then
      fMul r0 (fAdd (fAdd (fAdd one (fMul k.pt391.a t)) (fMul (fMul k.pt391.b t) t))
        (fMul (fMul (fMul (fMul k.pt391.c (fSub t hundred)) t) t) t))
    else fMul r0 (fAdd (fAdd one (fMul k.pt391.a t)) (fMul (fMul k.pt391.b t) t))
  | .cu428 =>
    if fLt t 0#64 then
      fMul r0 (fAdd (fAdd (fAdd one (fMul k.cu428.a t)) (fMul (fMul k.cu428.b t) (fAdd t kCopper)))
        (fMul (fMul (fMul k.cu428.c t) t) t))
    else fMul r0 (fAdd one (fMul k.cu428.a t))
  | .ni617 =>
    if fLt t hundred then fMul r0 (fAdd (fAdd one (fMul k.ni617.a t)) (fMul (fMul k.ni617.b t) t))
    else
      fMul r0 (fAdd (fAdd (fAdd one (fMul k.ni617.a t)) (fMul (fMul k.ni617.b t) t))
        (fMul (fMul (fMul k.ni617.c (fSub t hundred)) t) t))

/-- The curve of a `CURVE` code (rule R82). -/
def curveOf (c : BitVec 2) : Curve :=
  if c = 0#2 then .pt385 else if c = 1#2 then .pt391 else if c = 2#2 then .cu428 else .ni617

/-- The bound conversion of rule R151 for a resistance. -/
def bound (s : State) (r : F) : F :=
  fAdd (fMul (r2t s.params.k (curveOf s.curve) r s.r0cfg) s.calSlope) s.calOffset

/-- `CAUSE` of a failure (rule R26). -/
def causeOf (k : FailKind) : BitVec 2 := if k = .timeout then 1#2 else 2#2

/-- `ERR` and `CAUSE` after a bus operation whose one transfer had this result (rules R26, R170). -/
def errOf : Transfer → Bool
  | .ok => false
  | .fail _ => true

/-- See `errOf`. -/
def causeOfTransfer : Transfer → BitVec 2
  | .ok => 0#2
  | .fail k => causeOf k

/-! ### What the environment will answer

The answers of rule R51 depend on the pending script and the draws alone. -/

/-- The answer to the next transport call, a transmit. -/
def firstTx (s : State) : Transfer := (nextReply s).outcome

/-- The answer to the transport call after it, a receive of `n` bytes. -/
def secondRx (n : Nat) (s : State) : RxResult := rxResult n (dropReply s)

/-- The answer to the third transport call of an `ACQ`, the recovery write. -/
def thirdTx (s : State) : Transfer := (nextReply ((dropReply (dropReply s)).advance 7)).outcome

/-- The state of an operation's end: `IDLE`, chip-select released; the trace has grown by `ev`; what the
environment has left to answer and how many free values were drawn are as `t` has them. -/
def afterBus (s t : State) (ev : List BusEvent) : State :=
  { s with
    cs := .released
    trace := s.trace ++ ev
    script := t.script
    draws := t.draws }

/-- The data read up to its receive (rule R85, format `BR7`). -/
def readEvents (tmo : Nat) (r : RxResult) : List BusEvent :=
  [.csAssert, .tx [0x01#8] tmo .ok, .rx 7 tmo r, .csRelease]

/-- One configuration write (rule R85, format `BW`). -/
def writeEvents (tmo : Nat) (cfg : Byte) (r : Transfer) : List BusEvent :=
  [.csAssert, .tx [0x80#8, cfg] tmo r, .csRelease]

/-- The decoded frame in `FB` and the four registers (rules R86, R162), by integer arithmetic. -/
def latched (t : State) (b0 b1 b2 b3 b4 b5 b6 : Byte) : Prop :=
  t.fb = { b0 := b0, b1 := b1, b2 := b2, b3 := b3, b4 := b4, b5 := b5, b6 := b6 } ∧
    t.rtdcode.toNat = (b0.toNat * 256 + b1.toNat) / 2 ∧
    t.hft.toNat = (b2.toNat * 256 + b3.toNat) / 2 ∧
    t.lft.toNat = b4.toNat * 256 + b5.toNat ∧
    t.fstat = b6

/-- `t` is `s` but for the registers an `ACQ` writes. -/
def acqFrame (s t : State) (ev : List BusEvent) : Prop :=
  t =
    { afterBus s t ev with
      fb := t.fb
      rtdcode := t.rtdcode
      hft := t.hft
      lft := t.lft
      fstat := t.fstat
      x2 := t.x2
      x3 := t.x3
      valid := t.valid
      err := t.err
      cause := t.cause
      fault := t.fault }

/-- How many configuration writes `[0x80, 0xD3]` a trace holds. -/
def recoveryWrites (l : List BusEvent) : Nat :=
  (l.filter fun e => match e with
    | .tx bytes _ _ => bytes == [0x80#8, 0xD3#8]
    | _ => false).length

/-! ### Numbers -/

/-- A number, no infinity and no NaN. -/
def finite (a : F) : Prop := magOf a < infMag

/-- The value of a number. -/
def value (a : F) : ℚ := (signedUnits a : ℚ) / 2 ^ 1074

/-- An infinity. -/
def infinite (a : F) : Prop := magOf a = infMag

/-- No number lies nearer to `x` than `r`. -/
def nearest (r : F) (x : ℚ) : Prop := ∀ c : F, finite c → |value r - x| ≤ |value c - x|

/-- Half a unit in the last place above the greatest number: `(2^54 - 1) * 2^2044` units of `2^-1074`. -/
def overflowBound : ℚ := (2 ^ 54 - 1) * 2 ^ 970

/-- `r` is `x` rounded once, to nearest, ties to even (rule R10): below the overflow bound a number, nearest to `x`, whose
last bit is 0 where a number of another value lies as near; from the bound on the infinity of the sign of `x`. -/
def roundsTo (r : F) (x : ℚ) : Prop :=
  (|x| < overflowBound →
    finite r ∧ nearest r x ∧
      ∀ c : F, finite c → value c ≠ value r → |value c - x| = |value r - x| → magOf r % 2 = 0) ∧
  (overflowBound ≤ |x| → infinite r ∧ negOf r = decide (x < 0))

/-- The four operations on numbers: the exact result rounded once (a zero divisor is not spoken of). -/
def numbersRound (a b : F) : Prop :=
  roundsTo (fAdd a b) (value a + value b) ∧ roundsTo (fSub a b) (value a - value b) ∧
  roundsTo (fMul a b) (value a * value b) ∧ (magOf b ≠ 0 → roundsTo (fDiv a b) (value a / value b))

/-- The sign of a result on numbers, a zero result among them. -/
def numberSigns (a b : F) : Prop :=
  (negOf (fAdd a b) =
    if value a + value b = 0 then negOf a && negOf b else decide (value a + value b < 0)) ∧
  (negOf (fSub a b) =
    if value a - value b = 0 then negOf a && !negOf b else decide (value a - value b < 0)) ∧
  negOf (fMul a b) = (negOf a != negOf b) ∧
  (magOf b ≠ 0 → negOf (fDiv a b) = (negOf a != negOf b))

/-- An infinity of a sign. -/
def infinity (neg : Bool) : F := if neg then 0xFFF0000000000000#64 else 0x7FF0000000000000#64

/-- A zero of a sign. -/
def zero (neg : Bool) : F := if neg then 0x8000000000000000#64 else 0#64

/-- Sum and difference with an infinite `a` (rule R120, decision D5). -/
def infiniteSums (a b : F) : Prop :=
  (finite b → fAdd a b = a ∧ fAdd b a = a ∧ fSub a b = a ∧ fSub b a = infinity (!negOf a)) ∧
  (infinite b → negOf b = negOf a → fAdd a b = a ∧ fIsNaN (fSub a b) = true) ∧
  (infinite b → negOf b = !negOf a → fIsNaN (fAdd a b) = true ∧ fSub a b = a)

/-- Product and quotient with an infinite `a` (rule R120, decision D5). -/
def infiniteProducts (a b : F) : Prop :=
  (finite b → magOf b ≠ 0 →
    fMul a b = infinity (negOf a != negOf b) ∧ fMul b a = infinity (negOf a != negOf b)) ∧
  (magOf b = 0 → fIsNaN (fMul a b) = true ∧ fIsNaN (fMul b a) = true) ∧
  (infinite b → fMul a b = infinity (negOf a != negOf b) ∧ fIsNaN (fDiv a b) = true) ∧
  (finite b → fDiv a b = infinity (negOf a != negOf b) ∧ fDiv b a = zero (negOf a != negOf b))

/-! ### Radicands and special operands of the forward conversions -/

/-- The `R2T` function of a curve takes the root of a negative number (rules R116, R194): platinum in the solver branch,
nickel in the low branch, copper never. -/
def negativeRadicand (k : CoeffTable) (c : Curve) (r r0 : F) : Prop :=
  match c with
  | .pt385 => fLt r r0 = false ∧ fLt (rad k.pt385.a k.pt385.b (fDiv r r0)) 0#64 = true
  | .pt391 => fLt r r0 = false ∧ fLt (rad k.pt391.a k.pt391.b (fDiv r r0)) 0#64 = true
  | .cu428 => False
  | .ni617 => fLt r (tempStart r0) = true ∧ fLt (rad k.ni617.a k.ni617.b (fDiv r r0)) 0#64 = true

/-- The signs of the coefficients on which rule R120's account of an infinite `R` rests, and which the default table
has. -/
def usualSigns (k : CoeffTable) : Prop :=
  (fLt k.pt385.b 0#64 = true ∧ fLt 0#64 k.pt385.d1 = true ∧ fLt 0#64 k.pt385.d2 = true) ∧
  (fLt k.pt391.b 0#64 = true ∧ fLt 0#64 k.pt391.d1 = true ∧ fLt 0#64 k.pt391.d2 = true) ∧
  (finite k.cu428.a ∧ fLt 0#64 k.cu428.a = true ∧ fLt 0#64 k.cu428.d1 = true ∧ fLt 0#64 k.cu428.d2 = true) ∧
  (fLt 0#64 k.ni617.b = true ∧ fLt 0#64 k.ni617.d1 = true ∧ fLt k.ni617.d2 0#64 = true)

/-! ### Programs -/

/-- The command words of the operation lines of a program, in program order (rule R95). -/
def startWords : List Action → List (BitVec 8)
  | [] => []
  | .start w :: rest => w :: startWords rest
  | .write _ _ :: rest => startWords rest
  | .read _ :: rest => startWords rest
  | .copy _ _ :: rest => startWords rest
  | .wordWrite _ _ :: rest => startWords rest
  | .wordRead _ :: rest => startWords rest
  | .reset :: rest => startWords rest

/-- The operations of a list one after another, each to completion (rules R62, R96). -/
def runOps : List Instr → State → Host.Outcome State Fault Refusal
  | [], s => .next s
  | i :: rest, s =>
    match exec i { s with cmd := encode i, program := s.program.tail } with
    | .next t => runOps rest t
    | .fault f => .fault f
    | .refused r => .refused r

end Sys2Proof.Spec

open Sys2Proof Sys2Proof.Machine

/-! ## Encoding -/

/-- Rule R81: each of the fifteen legal command words, written out, is read as its operation. -/
def Obligations.DecoderReadsTheOpcodeTable : Prop :=
  decode 0x00#8 = .ok .r2tPt385 ∧ decode 0x01#8 = .ok .r2tPt391 ∧ decode 0x02#8 = .ok .r2tCu428 ∧
  decode 0x03#8 = .ok .r2tNi617 ∧ decode 0x10#8 = .ok .t2rPt385 ∧ decode 0x11#8 = .ok .t2rPt391 ∧
  decode 0x12#8 = .ok .t2rCu428 ∧ decode 0x13#8 = .ok .t2rNi617 ∧ decode 0x20#8 = .ok .cal ∧
  decode 0x30#8 = .ok .conv ∧ decode 0x40#8 = .ok .acq ∧ decode 0x50#8 = .ok .init2w ∧
  decode 0x51#8 = .ok .init3w ∧ decode 0x52#8 = .ok .init4w ∧ decode 0x60#8 = .ok .rdcfg

/-- Rule R84: a word is reserved when `op` is 7 or more, or `z` is not 0, or `sel` is not 0 in a group that
needs 0, or it is `0x53`; exactly those words decode to nothing, and the start of one is refused in `IDLE`. -/
def Obligations.ReservedCommandWordsAreRefused : Prop :=
  ∀ w : BitVec 8,
    ((7 ≤ w.toNat / 16 ∨ w.toNat / 4 % 4 ≠ 0 ∨
        (w.toNat % 4 ≠ 0 ∧ (w.toNat / 16 = 2 ∨ w.toNat / 16 = 3 ∨ w.toNat / 16 = 4 ∨ w.toNat / 16 = 6)) ∨
        w = 0x53#8) ↔ ¬ ∃ i, decode w = .ok i) ∧
    ((¬ ∃ i, decode w = .ok i) ↔ w ∉ legalCommands) ∧
    (∀ s : State, s.seq = .idle → (¬ ∃ i, decode w = .ok i) →
      perform (.start w) s = .refused (.reservedCommand w))

/-- Rules R80, R81: encoding and decoding are inverse to each other, both ways. -/
def Obligations.DecodeAndEncodeAreInverse : Prop :=
  (∀ i : Instr, decode (encode i) = .ok i) ∧ (∀ (w : BitVec 8) (i : Instr), decode w = .ok i → encode i = w)

/-- Rules R95, R96: the command bytes of any well-formed program are the words its operation lines start, in program
order; they decode, in that order, to operations whose encodings they are; the other lines add no byte. -/
def Obligations.ProgramBytesDecodeToItsOperations : Prop :=
  ∀ p : List Action, (∀ a ∈ p, a.wf = true) →
    commandBytes p = Sys2Proof.Spec.startWords p ∧
    ∃ l : List Instr, Sys2Proof.Spec.startWords p = l.map encode ∧
      (Sys2Proof.Spec.startWords p).map decode = l.map Except.ok

/-! ## The step -/

/-- Rules R62, R68, R96: in `IDLE`, when the host's next line starts a command word that decodes to `i`, the
step is `exec i` on the state in which that line is used up and the command port holds the word. -/
def Obligations.StepRunsTheDecodedOperation : Prop :=
  ∀ (s : State) (w : BitVec 8) (rest : List Action) (i : Instr), s.seq = .idle → s.program = .start w :: rest →
    decode w = .ok i → i.wf = true → step s = exec i { s with program := rest, cmd := w }

/-- A placed instruction word is the operation the very next step runs, whatever the state was. How a program
reaches RTDCORE is the model's choice (log entry 6). -/
def Obligations.PlacedWordRunsNext : Prop :=
  ∀ (s : State) (i : Instr),
    step (s.withFetchWord 8 (encode i).toNat) = exec i { s with seq := .idle, cmd := encode i }

/-- Rules R62, R96: a program of operations runs them in order, each to completion; afterwards the remaining
lines stand next and RTDCORE is in `IDLE`. That the host's lines are held in State is the model's choice (log
entry 6). -/
def Obligations.ProgramRunsItsOperationsInOrder : Prop :=
  ∀ (l : List Instr) (rest : List Action) (s : State), s.seq = .idle →
    s.program = (l.map fun i => Action.start (encode i)) ++ rest →
    ∃ t, Sys2Proof.core.run l.length s = .next t ∧ Sys2Proof.Spec.runOps l s = .next t ∧ t.program = rest ∧
      t.seq = .idle

/-- Rule R68: in `IDLE` a host line is performed exactly when it is well formed, and every other is refused;
with no line left RTDCORE waits, unchanged (rule R40). Which lines are well formed is in part the model's choice: a
word write at index 31 is judged by its low 8 bits and a read there is refused (log entry 9), an access to `x[4]` and
above or at a word index without meaning is refused (log entry 12), and `MOV` is one line (log entry 21). -/
def Obligations.IdleStepPerformsExactlyWellFormedLines : Prop :=
  ∀ s : State, s.seq = .idle →
    (s.program = [] → step s = .next s) ∧
    (∀ (a : Action) (rest : List Action), s.program = a :: rest →
      ((a.wf = true → ∃ t, step s = .next t) ∧ (a.wf = false → ∃ r, step s = .refused r)))

/-- Rules R22, R68: while an operation is in flight every operation and every host action is refused, a reset
too, and a step leaves the host's lines and readings alone. -/
def Obligations.HostIsBlockedWhileAnOperationRuns : Prop :=
  ∀ s : State, s.seq ≠ .idle →
    (∀ i : Instr, exec i s = .refused .hostBlocked) ∧
    (∀ a : Action, a ≠ .reset → perform a s = .refused .hostBlocked) ∧
    perform .reset s = .refused .resetInOperation ∧
    (∀ t, step s = .next t → t.program = s.program ∧ t.reads = s.reads)

/-! ## Reset -/

/-- Rules R40, R221: the reset values the spec states. The registers it calls unspecified are not spoken of. -/
def Obligations.ResetLeavesTheStatedValues : Prop :=
  State.reset.fault = false ∧ State.reset.calOffset = 0#64 ∧ State.reset.calSlope = Sys2Proof.Spec.one ∧
  State.reset.curve = 0#2 ∧ State.reset.r0cfg = Sys2Proof.Spec.hundred ∧ State.reset.valid = false ∧
  State.reset.err = false ∧ State.reset.cause = 0#2 ∧ State.reset.seq = .idle ∧ State.reset.cs = .released ∧
  State.reset.trace = []

/-- Rules R40, R42, R220: the reset event in `IDLE` gives the stated values in every state and keeps the
parameters; nothing is sent on the bus. That the event also keeps the host's lines and the transport's
answers is the model's choice (log entry 7). -/
def Obligations.ResetEventRestoresTheStatedValues : Prop :=
  ∀ s : State, s.seq = .idle →
    ∃ t, perform .reset s = .next t ∧ t.fault = false ∧ t.calOffset = 0#64 ∧ t.calSlope = Sys2Proof.Spec.one ∧
      t.curve = 0#2 ∧ t.r0cfg = Sys2Proof.Spec.hundred ∧ t.valid = false ∧ t.err = false ∧ t.cause = 0#2 ∧
      t.seq = .idle ∧ t.cs = .released ∧ t.trace = [] ∧ t.params = s.params ∧ t.program = s.program ∧
      t.script = s.script

/-! ## Conversion -/

/-- Rule R112: `R2T.PT385` completes in `IDLE` with the rule's value in `x[2]`, up to which NaN it is, and
changes nothing else (the draw counter is the model's own). -/
def Obligations.ForwardPt385Result : Prop :=
  ∀ s : State, s.seq = .idle →
    ∃ t, exec .r2tPt385 s = .next t ∧ t = { s with x2 := t.x2, draws := t.draws } ∧
      SameF t.x2 (Sys2Proof.Spec.r2t s.params.k .pt385 s.x0 s.x1)

/-- Rule R113: the same of `R2T.PT391`. -/
def Obligations.ForwardPt391Result : Prop :=
  ∀ s : State, s.seq = .idle →
    ∃ t, exec .r2tPt391 s = .next t ∧ t = { s with x2 := t.x2, draws := t.draws } ∧
      SameF t.x2 (Sys2Proof.Spec.r2t s.params.k .pt391 s.x0 s.x1)

/-- Rule R114: the same of `R2T.CU428`. -/
def Obligations.ForwardCu428Result : Prop :=
  ∀ s : State, s.seq = .idle →
    ∃ t, exec .r2tCu428 s = .next t ∧ t = { s with x2 := t.x2, draws := t.draws } ∧
      SameF t.x2 (Sys2Proof.Spec.r2t s.params.k .cu428 s.x0 s.x1)

/-- Rule R115: the same of `R2T.NI617`. -/
def Obligations.ForwardNi617Result : Prop :=
  ∀ s : State, s.seq = .idle →
    ∃ t, exec .r2tNi617 s = .next t ∧ t = { s with x2 := t.x2, draws := t.draws } ∧
      SameF t.x2 (Sys2Proof.Spec.r2t s.params.k .ni617 s.x0 s.x1)

/-- Rule R131: the same of `T2R.PT385`. -/
def Obligations.InversePt385Result : Prop :=
  ∀ s : State, s.seq = .idle →
    ∃ t, exec .t2rPt385 s = .next t ∧ t = { s with x2 := t.x2, draws := t.draws } ∧
      SameF t.x2 (Sys2Proof.Spec.t2r s.params.k .pt385 s.x0 s.x1)

/-- Rule R132: the same of `T2R.PT391`. -/
def Obligations.InversePt391Result : Prop :=
  ∀ s : State, s.seq = .idle →
    ∃ t, exec .t2rPt391 s = .next t ∧ t = { s with x2 := t.x2, draws := t.draws } ∧
      SameF t.x2 (Sys2Proof.Spec.t2r s.params.k .pt391 s.x0 s.x1)

/-- Rule R133: the same of `T2R.CU428`. -/
def Obligations.InverseCu428Result : Prop :=
  ∀ s : State, s.seq = .idle →
    ∃ t, exec .t2rCu428 s = .next t ∧ t = { s with x2 := t.x2, draws := t.draws } ∧
      SameF t.x2 (Sys2Proof.Spec.t2r s.params.k .cu428 s.x0 s.x1)

/-- Rule R134: the same of `T2R.NI617`. -/
def Obligations.InverseNi617Result : Prop :=
  ∀ s : State, s.seq = .idle →
    ∃ t, exec .t2rNi617 s = .next t ∧ t = { s with x2 := t.x2, draws := t.draws } ∧
      SameF t.x2 (Sys2Proof.Spec.t2r s.params.k .ni617 s.x0 s.x1)

/-- Rule R150: `CAL` writes `(x[0] * CAL_SLOPE) + CAL_OFFSET` to `x[2]`, and nothing else. -/
def Obligations.CalibrationResult : Prop :=
  ∀ s : State, s.seq = .idle →
    ∃ t, exec .cal s = .next t ∧ t = { s with x2 := t.x2, draws := t.draws } ∧
      SameF t.x2 (fAdd (fMul s.x0 s.calSlope) s.calOffset)

/-- Rule R151: `CONV` writes the calibrated conversion of `x[0]` by the bound curve and `R0CFG` to `x[2]`,
and nothing else. -/
def Obligations.BoundConversionResult : Prop :=
  ∀ s : State, s.seq = .idle →
    ∃ t, exec .conv s = .next t ∧ t = { s with x2 := t.x2, draws := t.draws } ∧
      SameF t.x2 (Sys2Proof.Spec.bound s s.x0)

/-- Rule R41: two runs of a conversion that agree in `x[0]`, `x[1]` and the coefficient table give the same
`x[2]` up to which NaN it is, whatever else differs, and write only `x[2]`. -/
def Obligations.ConversionsArePure : Prop :=
  ∀ (c : Curve) (s u : State), s.seq = .idle → u.seq = .idle → s.x0 = u.x0 → s.x1 = u.x1 →
    s.params.k = u.params.k →
    ∀ i : Instr, i = .r2t c ∨ i = .t2r c →
      ∃ s1 u1, exec i s = .next s1 ∧ exec i u = .next u1 ∧ SameF s1.x2 u1.x2 ∧
        s1 = { s with x2 := s1.x2, draws := s1.draws } ∧ u1 = { u with x2 := u1.x2, draws := u1.draws }

/-- Rule R194: a negative radicand gives the sentinel and no failure. Each `R2T` completes with NaN in `x[2]` and writes
no flag; so does `CONV`, whichever curve is bound; an `ACQ` that received its frame, and whose recovery write, where one
was due, succeeded, delivers NaN with `ERR` and `CAUSE` 0, and with `VALID` and `FAULT` as for any other frame. -/
def Obligations.NegativeRadicandGivesTheSentinel : Prop :=
  ∀ s : State, s.seq = .idle →
    (∀ c : Curve, Sys2Proof.Spec.negativeRadicand s.params.k c s.x0 s.x1 →
      ∃ t, exec (.r2t c) s = .next t ∧ fIsNaN t.x2 = true ∧ t.err = s.err ∧ t.cause = s.cause ∧
        t.valid = s.valid ∧ t.fault = s.fault) ∧
    (Sys2Proof.Spec.negativeRadicand s.params.k (Sys2Proof.Spec.curveOf s.curve) s.x0 s.r0cfg →
      ∃ t, exec .conv s = .next t ∧ fIsNaN t.x2 = true ∧ t.err = s.err ∧ t.cause = s.cause ∧
        t.valid = s.valid ∧ t.fault = s.fault) ∧
    (∀ b0 b1 b2 b3 b4 b5 b6 : Byte, Sys2Proof.Spec.firstTx s = .ok →
      Sys2Proof.Spec.secondRx 7 s = .ok [b0, b1, b2, b3, b4, b5, b6] →
      (b6 = 0#8 ∨ Sys2Proof.Spec.thirdTx s = .ok) →
      Sys2Proof.Spec.negativeRadicand s.params.k (Sys2Proof.Spec.curveOf s.curve)
        (fDiv (fMul (fOfNat ((b0.toNat * 256 + b1.toNat) / 2)) s.params.rRef) Sys2Proof.Spec.codeDivisor) s.r0cfg →
      ∃ t, exec .acq s = .next t ∧ fIsNaN t.x2 = true ∧ t.err = false ∧ t.cause = 0#2 ∧
        t.valid = decide (b6 = 0#8) ∧ t.fault = if b6 = 0#8 then s.fault else false)

/-- Rule R120, decision D6: a conversion of a NaN operand gives NaN, on every curve and in both directions. -/
def Obligations.NanOperandsGiveNan : Prop :=
  ∀ (c : Curve) (s : State), s.seq = .idle → fIsNaN s.x0 = true ∨ fIsNaN s.x1 = true →
    (∃ t, exec (.r2t c) s = .next t ∧ fIsNaN t.x2 = true) ∧
    (∃ t, exec (.t2r c) s = .next t ∧ fIsNaN t.x2 = true)

/-- Rule R120 for the forward conversions. Where the ratio is NaN (`0/0`, an infinity by an infinity) every curve gives
NaN. With coefficients of the usual signs, an infinite `R` over a finite `R0` whose sign bit is 0, and any `R` but a zero
over `R0 = +0.0`, give NaN in every branch but copper's linear one, which gives `+inf`. Every one of these operations
completes. That the rule's account of an infinite `R` is read for these signs only is the model's inference (log entry
25). -/
def Obligations.SpecialOperandsOfForwardConversions : Prop :=
  ∀ s : State, s.seq = .idle →
    (∀ c : Curve, fIsNaN (fDiv s.x0 s.x1) = true →
      ∃ t, exec (.r2t c) s = .next t ∧ fIsNaN t.x2 = true) ∧
    (Sys2Proof.Spec.usualSigns s.params.k → negOf s.x1 = false →
      ((Sys2Proof.Spec.infinite s.x0 ∧ Sys2Proof.Spec.finite s.x1) ∨
        (Sys2Proof.Spec.finite s.x0 ∧ magOf s.x0 ≠ 0 ∧ magOf s.x1 = 0)) →
      (∀ c : Curve, c ≠ .cu428 ∨ negOf s.x0 = true →
        ∃ t, exec (.r2t c) s = .next t ∧ fIsNaN t.x2 = true) ∧
      (negOf s.x0 = false →
        ∃ t, exec .r2tCu428 s = .next t ∧ t.x2 = Sys2Proof.Spec.infinity false))

/-- Rule R150's corner cases: with the reset calibration `CAL` gives back every number and infinity but `-0.0`,
which gives `+0.0`; NaN gives NaN whatever the constants. -/
def Obligations.ResetCalibrationIsTheIdentity : Prop :=
  ∀ s : State, s.seq = .idle →
    (s.calSlope = Sys2Proof.Spec.one → s.calOffset = 0#64 → fIsNaN s.x0 = false →
      ∃ t, exec .cal s = .next t ∧ t.x2 = if s.x0 = 0x8000000000000000#64 then 0#64 else s.x0) ∧
    (fIsNaN s.x0 = true → ∃ t, exec .cal s = .next t ∧ fIsNaN t.x2 = true)

/-- Rule R117: the nickel threshold by exact equality of `R0`; any other `R0`, NaN among them, gives `0.0`. -/
def Obligations.NickelThresholdLookup : Prop :=
  tempStart Sys2Proof.Spec.hundred = Sys2Proof.Spec.ts100 ∧
  tempStart Sys2Proof.Spec.fiveHundred = Sys2Proof.Spec.ts500 ∧
  tempStart Sys2Proof.Spec.thousand = Sys2Proof.Spec.ts1000 ∧
  (∀ r0 : F, r0 ≠ Sys2Proof.Spec.hundred → r0 ≠ Sys2Proof.Spec.fiveHundred → r0 ≠ Sys2Proof.Spec.thousand →
    tempStart r0 = 0#64)

/-- Vectors of 95_test_vectors.md section 2 (V-P3, V-P8, V-N3, V-N12, V-IP3, V-IC8, V-K1, V-A1's `x[3]`). Those
of a curve hold for the default coefficients, which are the model's PRESUMED values (log entry 4). -/
def Obligations.PublishedVectorsHold : Prop :=
  curveTemp defaultK .pt385 0x4061502D0E560419#64 Sys2Proof.Spec.hundred = 0x4058FFFFFFFFFFEF#64 ∧
  curveTemp defaultK .pt385 0x4058FFFFFFFFFFFF#64 Sys2Proof.Spec.hundred = 0xBD1FFA353F7CED91#64 ∧
  curveTemp defaultK .ni617 Sys2Proof.Spec.ts100 Sys2Proof.Spec.hundred = Sys2Proof.Spec.hundred ∧
  curveTemp defaultK .ni617 0x4062C00000000000#64 0x405E000000000000#64 = 0x4045B6ADB776CD8F#64 ∧
  platinumOhms defaultK.pt385 Sys2Proof.Spec.hundred Sys2Proof.Spec.hundred = 0x4061502D0E560418#64 ∧
  copperOhms defaultK.cu428 0xC01ACCCCCCCCCCCD#64 Sys2Proof.Spec.hundred = 0x40584878D26DB5E4#64 ∧
  calibrate Sys2Proof.Spec.hundred 0x3FF0CCCCCCCCCCCD#64 0xBFD3333333333333#64 = 0x405A2CCCCCCCCCCD#64 ∧
  ohmsOfCode 8192#15 0x407AC80000000000#64 = 0x405AC80000000000#64

/-! ## Arithmetic (rule R10, decision D1) -/

/-- Rule R90: the conversion of an RTD code to `F` is exact: the number it gives is the code. -/
def Obligations.CodeConversionIsExact : Prop :=
  ∀ code : BitVec 15, Sys2Proof.Spec.finite (fOfNat code.toNat) ∧
    Sys2Proof.Spec.value (fOfNat code.toNat) = (code.toNat : ℚ)

/-- Rule R10: rounding is to nearest, ties to even: no other number lies nearer to `n / d` units than the
result, and where another lies as near the result's last bit is 0. When the result is no infinity says
`OverflowThreshold`. -/
def Obligations.RoundingIsToNearestEven : Prop :=
  ∀ n d : Nat, 0 < d → roundMag n d < infMag → ∀ m : Nat, m < infMag →
    |(unitsOf (roundMag n d) * d : ℤ) - n| ≤ |(unitsOf m * d : ℤ) - n| ∧
    (m ≠ roundMag n d → |(unitsOf (roundMag n d) * d : ℤ) - n| = |(unitsOf m * d : ℤ) - n| →
      roundMag n d % 2 = 0)

/-- Decision D5: a result overflows to infinity exactly from half a unit in the last place above the greatest
number on. -/
def Obligations.OverflowThreshold : Prop :=
  ∀ n d : Nat, 0 < d → (roundMag n d = infMag ↔ (2 ^ 54 - 1) * 2 ^ 2044 * d ≤ n)

/-- Rules R10, R116, R120, decision D5: the four operations. On numbers, the exact result rounded once, ties to even, a
number below the overflow bound and an infinity from it on, with the sign of the exact result and the format's sign of
a zero; a number that is not zero over a zero is an infinity, `0/0` is NaN; infinite operands as the format has them;
a NaN operand gives NaN. -/
def Obligations.ArithmeticIsCorrectlyRounded : Prop :=
  ∀ a b : F,
    (Sys2Proof.Spec.finite a → Sys2Proof.Spec.finite b →
      Sys2Proof.Spec.numbersRound a b ∧ Sys2Proof.Spec.numberSigns a b) ∧
    (Sys2Proof.Spec.finite a → magOf b = 0 →
      (magOf a ≠ 0 → fDiv a b = Sys2Proof.Spec.infinity (negOf a != negOf b)) ∧
      (magOf a = 0 → fIsNaN (fDiv a b) = true)) ∧
    (Sys2Proof.Spec.infinite a → Sys2Proof.Spec.infiniteSums a b ∧ Sys2Proof.Spec.infiniteProducts a b) ∧
    (fIsNaN a = true ∨ fIsNaN b = true →
      fIsNaN (fAdd a b) = true ∧ fIsNaN (fSub a b) = true ∧ fIsNaN (fMul a b) = true ∧ fIsNaN (fDiv a b) = true)

/-- Rules R10, R116: the square root of a number not below zero, a zero of either sign among them, is a number of the
operand's sign, no number lies nearer to the exact root, and where one of another value lies as near the result's last
bit is 0; the root of a zero is that zero; the root of `+inf` is `+inf`; below zero, of `-inf` and of a NaN it is NaN. -/
def Obligations.SquareRootIsCorrectlyRounded : Prop :=
  ∀ a : F,
    (Sys2Proof.Spec.finite a → negOf a = false ∨ magOf a = 0 →
      Sys2Proof.Spec.finite (fSqrt a) ∧ negOf (fSqrt a) = negOf a ∧
      ∀ c : F, Sys2Proof.Spec.finite c →
        |((Sys2Proof.Spec.value (fSqrt a) : ℚ) : ℝ) - Real.sqrt (Sys2Proof.Spec.value a : ℚ)| ≤
          |((Sys2Proof.Spec.value c : ℚ) : ℝ) - Real.sqrt (Sys2Proof.Spec.value a : ℚ)| ∧
        (Sys2Proof.Spec.value c ≠ Sys2Proof.Spec.value (fSqrt a) →
          |((Sys2Proof.Spec.value c : ℚ) : ℝ) - Real.sqrt (Sys2Proof.Spec.value a : ℚ)| =
            |((Sys2Proof.Spec.value (fSqrt a) : ℚ) : ℝ) - Real.sqrt (Sys2Proof.Spec.value a : ℚ)| →
          magOf (fSqrt a) % 2 = 0)) ∧
    (magOf a = 0 → fSqrt a = a) ∧
    (Sys2Proof.Spec.infinite a → negOf a = false → fSqrt a = a) ∧
    (negOf a = true → magOf a ≠ 0 → fIsNaN (fSqrt a) = true) ∧
    (fIsNaN a = true → fIsNaN (fSqrt a) = true)

/-- Rules R117, R120, decision D6: `<` and `=` compare the numbers, zeros of either sign being equal; `+inf` lies above
and `-inf` below everything else, each equal to itself alone; with a NaN operand both are false. -/
def Obligations.ComparisonsCompareTheNumbers : Prop :=
  ∀ a b : F,
    (Sys2Proof.Spec.finite a → Sys2Proof.Spec.finite b →
      (fLt a b = true ↔ Sys2Proof.Spec.value a < Sys2Proof.Spec.value b) ∧
      (fEq a b = true ↔ Sys2Proof.Spec.value a = Sys2Proof.Spec.value b)) ∧
    (fIsNaN a = false → Sys2Proof.Spec.infinite b →
      (negOf b = false → (fLt a b = true ↔ a ≠ b) ∧ fLt b a = false) ∧
      (negOf b = true → (fLt b a = true ↔ a ≠ b) ∧ fLt a b = false) ∧
      (fEq a b = true ↔ a = b) ∧ (fEq b a = true ↔ a = b)) ∧
    (fIsNaN a = true ∨ fIsNaN b = true → fLt a b = false ∧ fEq a b = false)

/-! ## The bus -/

/-- Rule R52: `MemRead`, by what the environment answers. -/
def Obligations.MemReadTransaction : Prop :=
  ∀ (addr : Byte) (n : Nat) (s : State),
    (∀ k, Sys2Proof.Spec.firstTx s = .fail k →
      memRead addr n s =
        (.fail k, Sys2Proof.Spec.afterBus s (memRead addr n s).2
          [.csAssert, .tx [addr] s.params.tmo (.fail k), .csRelease])) ∧
    (Sys2Proof.Spec.firstTx s = .ok →
      memRead addr n s =
        (Sys2Proof.Spec.secondRx n s, Sys2Proof.Spec.afterBus s (memRead addr n s).2
          [.csAssert, .tx [addr] s.params.tmo .ok, .rx n s.params.tmo (Sys2Proof.Spec.secondRx n s),
            .csRelease]) ∧
      (∀ bytes, (memRead addr n s).1 = .ok bytes → bytes.length = n))

/-- Rule R53: `MemWrite` is one transmit of the address and the bytes in a chip-select scope of its own, and its
result is the transport's answer. -/
def Obligations.MemWriteTransaction : Prop :=
  ∀ (addr : Byte) (v : List Byte) (s : State),
    memWrite addr v s =
      (Sys2Proof.Spec.firstTx s, Sys2Proof.Spec.afterBus s (memWrite addr v s).2
        [.csAssert, .tx (addr :: v) s.params.tmo (Sys2Proof.Spec.firstTx s), .csRelease])

/-- Rule R86: the fields of the frame by integer arithmetic; bit 0 of `b1` and of `b3` influence nothing. -/
def Obligations.FrameFieldsAreExtracted : Prop :=
  ∀ f : Frame,
    f.rtdcode.toNat = (f.b0.toNat * 256 + f.b1.toNat) / 2 ∧
    f.hft.toNat = (f.b2.toNat * 256 + f.b3.toNat) / 2 ∧
    f.lft.toNat = f.b4.toNat * 256 + f.b5.toNat ∧ f.fstat = f.b6 ∧
    (∀ g : Frame, g = { f with b1 := f.b1 ^^^ 1#8, b3 := f.b3 ^^^ 1#8 } →
      g.rtdcode = f.rtdcode ∧ g.hft = f.hft ∧ g.lft = f.lft ∧ g.fstat = f.fstat)

/-- Rules R170, R174, R175, R176: each `INIT` sends exactly one configuration write with its byte, reports its
result in `ERR` and `CAUSE`, and changes nothing else; `INIT.2W` and `INIT.4W` are the same. -/
def Obligations.InitSendsOneConfigurationWrite : Prop :=
  ∀ s : State, s.seq = .idle →
    (∃ t, exec .init2w s = .next t ∧
      t = { Sys2Proof.Spec.afterBus s t (Sys2Proof.Spec.writeEvents s.params.tmo 0xC3#8 (Sys2Proof.Spec.firstTx s)) with
            err := Sys2Proof.Spec.errOf (Sys2Proof.Spec.firstTx s)
            cause := Sys2Proof.Spec.causeOfTransfer (Sys2Proof.Spec.firstTx s) }) ∧
    (∃ t, exec .init3w s = .next t ∧
      t = { Sys2Proof.Spec.afterBus s t (Sys2Proof.Spec.writeEvents s.params.tmo 0xD3#8 (Sys2Proof.Spec.firstTx s)) with
            err := Sys2Proof.Spec.errOf (Sys2Proof.Spec.firstTx s)
            cause := Sys2Proof.Spec.causeOfTransfer (Sys2Proof.Spec.firstTx s) }) ∧
    (∃ t, exec .init4w s = .next t ∧
      t = { Sys2Proof.Spec.afterBus s t (Sys2Proof.Spec.writeEvents s.params.tmo 0xC3#8 (Sys2Proof.Spec.firstTx s)) with
            err := Sys2Proof.Spec.errOf (Sys2Proof.Spec.firstTx s)
            cause := Sys2Proof.Spec.causeOfTransfer (Sys2Proof.Spec.firstTx s) }) ∧
    exec .init2w s = exec .init4w s

/-- Rule R171: `RDCFG` transmits `0x00` and receives one byte into `CFGRD`; a failure is reported, `CFGRD` is
then unspecified, a failed transmit skips the receive; nothing else is written. -/
def Obligations.RdcfgReadsOneByte : Prop :=
  ∀ s : State, s.seq = .idle →
    (∀ v, Sys2Proof.Spec.firstTx s = .ok → Sys2Proof.Spec.secondRx 1 s = .ok [v] →
      ∃ t, exec .rdcfg s = .next t ∧
        t = { Sys2Proof.Spec.afterBus s t [.csAssert, .tx [0x00#8] s.params.tmo .ok,
                .rx 1 s.params.tmo (.ok [v]), .csRelease] with
              cfgrd := v
              err := false
              cause := 0#2 }) ∧
    (∀ k, Sys2Proof.Spec.firstTx s = .ok → Sys2Proof.Spec.secondRx 1 s = .fail k →
      ∃ t, exec .rdcfg s = .next t ∧
        t = { Sys2Proof.Spec.afterBus s t [.csAssert, .tx [0x00#8] s.params.tmo .ok,
                .rx 1 s.params.tmo (.fail k), .csRelease] with
              cfgrd := t.cfgrd
              err := true
              cause := Sys2Proof.Spec.causeOf k }) ∧
    (∀ k, Sys2Proof.Spec.firstTx s = .fail k →
      ∃ t, exec .rdcfg s = .next t ∧
        t = { Sys2Proof.Spec.afterBus s t [.csAssert, .tx [0x00#8] s.params.tmo (.fail k), .csRelease] with
              cfgrd := t.cfgrd
              err := true
              cause := Sys2Proof.Spec.causeOf k })

/-! ## Acquisition -/

/-- Rules R160, R162, R164 to R166: a fault-free frame. The fields are decoded, no configuration write is sent,
`FAULT` is not written, `x[3]` is the resistance of the code, `x[2]` the bound conversion of `x[3]`, `VALID` is
1, `ERR` and `CAUSE` are 0, and nothing else changes. -/
def Obligations.CleanFrameIsDelivered : Prop :=
  ∀ (s : State) (b0 b1 b2 b3 b4 b5 b6 : Byte), s.seq = .idle → Sys2Proof.Spec.firstTx s = .ok →
    Sys2Proof.Spec.secondRx 7 s = .ok [b0, b1, b2, b3, b4, b5, b6] → b6 = 0#8 →
    ∃ t, exec .acq s = .next t ∧ Sys2Proof.Spec.latched t b0 b1 b2 b3 b4 b5 b6 ∧
      Sys2Proof.Spec.acqFrame s t
        (Sys2Proof.Spec.readEvents s.params.tmo (.ok [b0, b1, b2, b3, b4, b5, b6])) ∧
      SameF t.x3 (fDiv (fMul (fOfNat ((b0.toNat * 256 + b1.toNat) / 2)) s.params.rRef) Sys2Proof.Spec.codeDivisor) ∧
      SameF t.x2 (Sys2Proof.Spec.bound s t.x3) ∧
      t.valid = true ∧ t.err = false ∧ t.cause = 0#2 ∧ t.fault = s.fault

/-- Rules R160, R163 to R166: a faulted frame whose recovery write succeeds. Exactly one configuration write
`[0x80, 0xD3]` is sent, `FAULT` ends 0, the resistance and the temperature are delivered all the same and `VALID`
is 0. -/
def Obligations.FaultedFrameIsRecoveredOnceAndDelivered : Prop :=
  ∀ (s : State) (b0 b1 b2 b3 b4 b5 b6 : Byte), s.seq = .idle → Sys2Proof.Spec.firstTx s = .ok →
    Sys2Proof.Spec.secondRx 7 s = .ok [b0, b1, b2, b3, b4, b5, b6] → b6 ≠ 0#8 →
    Sys2Proof.Spec.thirdTx s = .ok →
    ∃ t, exec .acq s = .next t ∧ Sys2Proof.Spec.latched t b0 b1 b2 b3 b4 b5 b6 ∧
      Sys2Proof.Spec.acqFrame s t
        (Sys2Proof.Spec.readEvents s.params.tmo (.ok [b0, b1, b2, b3, b4, b5, b6]) ++
          Sys2Proof.Spec.writeEvents s.params.tmo 0xD3#8 .ok) ∧
      SameF t.x3 (fDiv (fMul (fOfNat ((b0.toNat * 256 + b1.toNat) / 2)) s.params.rRef) Sys2Proof.Spec.codeDivisor) ∧
      SameF t.x2 (Sys2Proof.Spec.bound s t.x3) ∧
      t.valid = false ∧ t.err = false ∧ t.cause = 0#2 ∧ t.fault = false

/-- Rule R167 (a) and (b): the failure paths of `ACQ`. After a failed data read `ERR`, `CAUSE` and `VALID` are
written, `FAULT` is not, and nothing is recovered; after a failed recovery write `FAULT` is 0 and the frame and
the decoded registers are kept. `x[2]`, `x[3]` (and after a failed read the frame and the decoded registers) are
left open. Nothing else changes. -/
def Obligations.AcqFailurePaths : Prop :=
  ∀ s : State, s.seq = .idle →
    (∀ k, Sys2Proof.Spec.firstTx s = .fail k →
      ∃ t, exec .acq s = .next t ∧
        Sys2Proof.Spec.acqFrame s t [.csAssert, .tx [0x01#8] s.params.tmo (.fail k), .csRelease] ∧
        t.err = true ∧ t.cause = Sys2Proof.Spec.causeOf k ∧ t.valid = false ∧ t.fault = s.fault) ∧
    (∀ k, Sys2Proof.Spec.firstTx s = .ok → Sys2Proof.Spec.secondRx 7 s = .fail k →
      ∃ t, exec .acq s = .next t ∧
        Sys2Proof.Spec.acqFrame s t (Sys2Proof.Spec.readEvents s.params.tmo (.fail k)) ∧
        t.err = true ∧ t.cause = Sys2Proof.Spec.causeOf k ∧ t.valid = false ∧ t.fault = s.fault) ∧
    (∀ (k : FailKind) (b0 b1 b2 b3 b4 b5 b6 : Byte), Sys2Proof.Spec.firstTx s = .ok →
      Sys2Proof.Spec.secondRx 7 s = .ok [b0, b1, b2, b3, b4, b5, b6] → b6 ≠ 0#8 →
      Sys2Proof.Spec.thirdTx s = .fail k →
      ∃ t, exec .acq s = .next t ∧ Sys2Proof.Spec.latched t b0 b1 b2 b3 b4 b5 b6 ∧
        Sys2Proof.Spec.acqFrame s t
          (Sys2Proof.Spec.readEvents s.params.tmo (.ok [b0, b1, b2, b3, b4, b5, b6]) ++
            Sys2Proof.Spec.writeEvents s.params.tmo 0xD3#8 (.fail k)) ∧
        t.err = true ∧ t.cause = Sys2Proof.Spec.causeOf k ∧ t.valid = false ∧ t.fault = false)

/-- Rule R172: whatever the environment answers, an `ACQ` appends one of four sequences to the trace. It sends
the recovery write once when the frame it received is faulted and never else; the chip-select line alternates
and ends released; a clean frame gives the decoded resistance; an `ACQ` that finds `FAULT` clear leaves it
clear, and after a faulted frame it is clear whatever it was. -/
def Obligations.AcqTraceGuarantees : Prop :=
  ∀ s : State, s.seq = .idle →
    ∃ t ev, exec .acq s = .next t ∧ t.trace = s.trace ++ ev ∧ busReplay .released ev = some .released ∧
      (s.fault = false → t.fault = false) ∧
      ((∃ k, ev = [.csAssert, .tx [0x01#8] s.params.tmo (.fail k), .csRelease] ∧
          Sys2Proof.Spec.recoveryWrites ev = 0) ∨
        (∃ k, ev = Sys2Proof.Spec.readEvents s.params.tmo (.fail k) ∧ Sys2Proof.Spec.recoveryWrites ev = 0) ∨
        (∃ b0 b1 b2 b3 b4 b5 b6 : Byte, b6 = 0#8 ∧
          ev = Sys2Proof.Spec.readEvents s.params.tmo (.ok [b0, b1, b2, b3, b4, b5, b6]) ∧
          Sys2Proof.Spec.recoveryWrites ev = 0 ∧
          SameF t.x3
            (fDiv (fMul (fOfNat ((b0.toNat * 256 + b1.toNat) / 2)) s.params.rRef) Sys2Proof.Spec.codeDivisor)) ∨
        (∃ (b0 b1 b2 b3 b4 b5 b6 : Byte) (r : Transfer), b6 ≠ 0#8 ∧
          ev = Sys2Proof.Spec.readEvents s.params.tmo (.ok [b0, b1, b2, b3, b4, b5, b6]) ++
            Sys2Proof.Spec.writeEvents s.params.tmo 0xD3#8 r ∧
          Sys2Proof.Spec.recoveryWrites ev = 1 ∧ t.fault = false))

/-- Rule R166: after an `ACQ` that delivered, `x[2]` is what `CONV` computes from `x[3]`. -/
def Obligations.AcqTemperatureIsConvOfItsResistance : Prop :=
  ∀ s t : State, exec .acq s = .next t → t.err = false →
    ∃ u, exec .conv { t with x0 := t.x3 } = .next u ∧ SameF u.x2 t.x2

/-! ## Phases -/

/-- Rules R110, R160, R168, R170, R171: an operation run phase by phase ends in the same state, trace included,
as the operation run in one step. -/
def Obligations.PhasesAgreeWithTheOperation : Prop :=
  ∀ (i : Instr) (s : State), s.seq = .idle → runPhases i s = exec i { s with cmd := encode i }

/-- Rules R168, R170, R171: which phase follows which, and on what. -/
def Obligations.PhaseSuccession : Prop :=
  ∀ s t : State, tick s = .next t →
    (s.seq = .idle → t = s) ∧
    (s.seq = .exec ∨ s.seq = .compute ∨ s.seq = .cfgTx ∨ s.seq = .rcRx → t.seq = .idle) ∧
    (s.seq = .rdTx → t.seq = if Sys2Proof.Spec.firstTx s = .ok then .rdRx else .idle) ∧
    (s.seq = .rdRx → t.seq = if Sys2Proof.Spec.firstTx s = .ok then .decode else .idle) ∧
    (s.seq = .decode → t.seq = if s.fb.b6 = 0#8 then .compute else .faultDet) ∧
    (s.seq = .faultDet → t.seq = .recover) ∧
    (s.seq = .recover → t.seq = if Sys2Proof.Spec.firstTx s = .ok then .compute else .idle) ∧
    (s.seq = .rcTx → t.seq = if Sys2Proof.Spec.firstTx s = .ok then .rcRx else .idle)

/-- Rule R169: the fault state machine. `FAULT` rises in `FAULT_DET` and nowhere else, on a non-zero fault byte,
and falls at the end of `RECOVER` whatever the write's outcome. -/
def Obligations.FaultStateMachine : Prop :=
  ∀ s t : State, tick s = .next t →
    (s.seq ≠ .faultDet → t.seq = .faultDet → s.seq = .decode ∧ s.fb.b6 ≠ 0#8) ∧
    (s.seq = .faultDet → t.fault = true ∧ t.seq = .recover) ∧
    (s.seq = .recover → t.fault = false ∧ (t.seq = .compute ∨ t.seq = .idle)) ∧
    (s.seq ≠ .faultDet → s.seq ≠ .recover → t.fault = s.fault) ∧
    (t.seq = .recover → s.seq = .faultDet)

/-- Rules R225, R54: an operation in flight ends: from every state of the invariant at most six phases lead to
`IDLE`, with `CS` released and `FAULT` clear (rule R225's assumption that every transport call returns is part
of the model). -/
def Obligations.OperationInFlightEnds : Prop :=
  ∀ s : State, Invariant s → ∃ t, ticks 6 s = .next t ∧ Settled t

/-! ## Invariants and whole-machine rules -/

/-- The invariant holds after reset (rule R40). -/
def Obligations.InvariantHoldsAtReset : Prop := Invariant State.reset

/-- Rules R24, R26, R37, R51, R165, R169: every step from a state of the invariant that answers a next state
answers one of the invariant. -/
def Obligations.StepKeepsTheInvariant : Prop :=
  ∀ s t : State, Invariant s → step s = .next t → Invariant t

/-- The same of starting an operation phase by phase, so that the states between phases are covered too. -/
def Obligations.LaunchKeepsTheInvariant : Prop :=
  ∀ (i : Instr) (s : State), Invariant s → s.seq = .idle → ∃ t, launch i s = .next t ∧ Invariant t ∧ t.seq ≠ .idle

/-- Rule R199: nothing is fatal. From a state of the invariant no step faults, and what is refused is a host
line that is not well formed. Which lines are well formed is in part the model's choice: a word access at index 31 (log
entry 9), accesses to `x[4]` and above and at word indices without meaning (log entry 12). -/
def Obligations.NothingIsFatal : Prop :=
  ∀ s : State, Invariant s →
    (∀ f, step s ≠ .fault f) ∧
    (∀ r, step s = .refused r → ∃ a rest, s.seq = .idle ∧ s.program = a :: rest ∧ a.wf = false)

/-- Rules R24, R37, R225: every operation run from a state of the invariant ends settled: `IDLE`, `CS` released,
`FAULT` 0. -/
def Obligations.EveryOperationEndsSettled : Prop :=
  ∀ (i : Instr) (s : State), Invariant s → s.seq = .idle → ∃ t, exec i s = .next t ∧ Settled t ∧ Invariant t

/-- Rules R20, R42, R160: no operation writes `x[0]`, `x[1]`, the four registers the host configures, the
parameters, the command port, the host's lines or what the host has read. -/
def Obligations.OperandsAndConfigurationAreNeverWritten : Prop :=
  ∀ (i : Instr) (s t : State), exec i s = .next t →
    t.x0 = s.x0 ∧ t.x1 = s.x1 ∧ t.calOffset = s.calOffset ∧ t.calSlope = s.calSlope ∧ t.r0cfg = s.r0cfg ∧
    t.curve = s.curve ∧ t.params = s.params ∧ t.cmd = s.cmd ∧ t.program = s.program ∧ t.reads = s.reads

/-- Rules R24 to R26, R33, R34, R36: only `ACQ` writes `FAULT`, `VALID`, `x[3]`, the frame and the decoded
registers; only `RDCFG` writes `CFGRD`; the pure operations leave `ERR`, `CAUSE`, the bus and the trace alone. -/
def Obligations.EachStateHasItsOwnWriters : Prop :=
  ∀ (i : Instr) (s t : State), exec i s = .next t →
    (i ≠ .acq → t.fault = s.fault ∧ t.valid = s.valid ∧ t.x3 = s.x3 ∧ t.fb = s.fb ∧ t.rtdcode = s.rtdcode ∧
      t.hft = s.hft ∧ t.lft = s.lft ∧ t.fstat = s.fstat) ∧
    (i ≠ .rdcfg → t.cfgrd = s.cfgrd) ∧
    (i ≠ .acq → i ≠ .rdcfg → i ≠ .init2w → i ≠ .init3w → i ≠ .init4w →
      t.err = s.err ∧ t.cause = s.cause ∧ t.cs = s.cs ∧ t.trace = s.trace ∧ t.script = s.script) ∧
    (i = .rdcfg ∨ i = .init2w ∨ i = .init3w ∨ i = .init4w → t.x2 = s.x2)

/-- Rule R152: the calibration constants influence `CAL`, `CONV` and the temperature of `ACQ`, and nothing else:
every other operation does the same whatever they are, of an `ACQ` they touch `x[2]` only, and where they are
applied it is as a last linear step on the conversion's finished result. That two runs also agree in what a failed
transfer leaves open rests on the model's choice of free values fixed by the draw count (log entry 2). -/
def Obligations.CalibrationTouchesTheTemperatureOnly : Prop :=
  ∀ (s t u : State) (o m : F) (i : Instr), exec i s = .next t →
    exec i { s with calOffset := o, calSlope := m } = .next u →
    (i ≠ .cal → i ≠ .conv → i ≠ .acq → u = { t with calOffset := o, calSlope := m }) ∧
    (i = .acq → u = { t with calOffset := o, calSlope := m, x2 := u.x2 }) ∧
    (i = .cal → SameF t.x2 (fAdd (fMul s.x0 s.calSlope) s.calOffset)) ∧
    (i = .conv → SameF t.x2 (fAdd (fMul
      (Sys2Proof.Spec.r2t s.params.k (Sys2Proof.Spec.curveOf s.curve) s.x0 s.r0cfg) s.calSlope) s.calOffset)) ∧
    (i = .acq → t.err = false → SameF t.x2 (fAdd (fMul
      (Sys2Proof.Spec.r2t s.params.k (Sys2Proof.Spec.curveOf s.curve) t.x3 s.r0cfg) s.calSlope) s.calOffset))

/-! ## The host's registers -/

/-- Rules R31, R68: what a host write does to each register that exists; `CURVE` keeps the low two bits, and a
write to `x[2]`, `x[3]` or `c[4..9]` is ignored. -/
def Obligations.HostWriteMap : Prop :=
  ∀ (s : State) (v : BitVec 64), s.seq = .idle →
    perform (.write (.x 0) v) s = .next { s with x0 := v } ∧
    perform (.write (.x 1) v) s = .next { s with x1 := v } ∧
    perform (.write (.c 0) v) s = .next { s with calOffset := v } ∧
    perform (.write (.c 1) v) s = .next { s with calSlope := v } ∧
    perform (.write (.c 2) v) s = .next { s with r0cfg := v } ∧
    perform (.write (.c 3) v) s = .next { s with curve := v.extractLsb' 0 2 } ∧
    perform (.write (.x 2) v) s = .next s ∧ perform (.write (.x 3) v) s = .next s ∧
    (∀ j, 4 ≤ j → j ≤ 9 → perform (.write (.c j) v) s = .next s)

/-- Rules R20, R32 to R34, R39, R89: what a host read of each register gives, zero-extended, and that it changes
nothing but what the host has seen (log entry 8); `STATUS` is `FAULT + 2*VALID + 4*ERR + 8*CAUSE`. -/
def Obligations.HostReadMap : Prop :=
  ∀ s : State, s.seq = .idle →
    (∀ r, r.wf = true → ∃ v, perform (.read r) s = .next { s with reads := s.reads ++ [(r, v)] } ∧
      readHostReg s r = some v) ∧
    readHostReg s (.x 0) = some s.x0 ∧ readHostReg s (.x 1) = some s.x1 ∧
    readHostReg s (.x 2) = some s.x2 ∧ readHostReg s (.x 3) = some s.x3 ∧
    readHostReg s (.c 0) = some s.calOffset ∧ readHostReg s (.c 1) = some s.calSlope ∧
    readHostReg s (.c 2) = some s.r0cfg ∧
    (readHostReg s (.c 3)).map BitVec.toNat = some s.curve.toNat ∧
    (readHostReg s (.c 4)).map BitVec.toNat =
      some (s.fault.toNat + 2 * s.valid.toNat + 4 * s.err.toNat + 8 * s.cause.toNat) ∧
    (readHostReg s (.c 5)).map BitVec.toNat = some s.rtdcode.toNat ∧
    (readHostReg s (.c 6)).map BitVec.toNat = some s.hft.toNat ∧
    (readHostReg s (.c 7)).map BitVec.toNat = some s.lft.toNat ∧
    (readHostReg s (.c 8)).map BitVec.toNat = some s.fstat.toNat ∧
    (readHostReg s (.c 9)).map BitVec.toNat = some s.cfgrd.toNat

/-- Rule R39: a host access to `c[10]` and above is refused. That an access to `x[4]` and above is refused too is read
from rule R20's four registers (log entry 12). -/
def Obligations.MissingRegistersAreRefused : Prop :=
  ∀ (s : State) (v : BitVec 64) (j : Nat), s.seq = .idle →
    (10 ≤ j → perform (.write (.c j) v) s = .refused (.noSuchRegister (.c j)) ∧
      perform (.read (.c j)) s = .refused (.noSuchRegister (.c j))) ∧
    (4 ≤ j → perform (.write (.x j) v) s = .refused (.noSuchRegister (.x j)) ∧
      perform (.read (.x j)) s = .refused (.noSuchRegister (.x j)))

/-- Rule R68's word indices: `x[i]` at `i`, `c[j]` at `8 + j`, the command port at 31. That a write to the port takes the
low 8 bits and that a read of it is refused is the model's choice (log entry 9), and that an access at every other index
is refused is its inference (log entry 12). -/
def Obligations.WordIndexMap : Prop :=
  ∀ (s : State) (v : BitVec 64),
    (∀ i, i < 4 → perform (.wordWrite i v) s = perform (.write (.x i) v) s ∧
      perform (.wordRead i) s = perform (.read (.x i)) s) ∧
    (∀ j, j < 10 → perform (.wordWrite (8 + j) v) s = perform (.write (.c j) v) s ∧
      perform (.wordRead (8 + j)) s = perform (.read (.c j)) s) ∧
    perform (.wordWrite 31 v) s = perform (.start (v.extractLsb' 0 8)) s ∧
    (s.seq = .idle → ∀ n, 4 ≤ n → n < 8 ∨ 18 ≤ n →
      perform (.wordRead n) s = .refused (.noSuchWord n) ∧
        (n ≠ 31 → perform (.wordWrite n v) s = .refused (.noSuchWord n)))
end

