-- ==== Sys2Proof/Laws/Float.lean ====
section
/-! SUPPORT. What the arithmetic of Machine/Float.lean says once: the parts of a packed pattern, that no
rounding gives a NaN, how NaN propagates, how patterns stand for amounts, and that the digit-by-digit root is the integer root. -/

namespace Sys2Proof.Machine

theorem infMag_lt : infMag < 2 ^ 63 := by decide

theorem magOf_lt (a : F) : magOf a < 2 ^ 63 := Nat.mod_lt _ (by decide)

/-- A pattern is its sign and its bits 62:0. -/
theorem toNat_eq_sign_add_mag (a : F) : a.toNat = (if negOf a then 2 ^ 63 else 0) + magOf a := by
  have h := a.isLt
  by_cases hs : 2 ^ 63 ≤ a.toNat
  · simp only [negOf, magOf, hs, decide_true, if_true]
    omega
  · simp only [negOf, magOf, hs, decide_false, Bool.false_eq_true, if_false]
    omega

theorem toNat_pack (neg : Bool) {m : Nat} (h : m < 2 ^ 63) :
    (pack neg m).toNat = (if neg then 2 ^ 63 else 0) + m := by
  unfold pack
  rw [BitVec.toNat_ofNat, Nat.mod_eq_of_lt]
  cases neg
  · simp only [Bool.false_eq_true, if_false]
    omega
  · simp only [if_true]
    omega

@[simp] theorem magOf_pack (neg : Bool) {m : Nat} (h : m < 2 ^ 63) : magOf (pack neg m) = m := by
  unfold magOf
  rw [toNat_pack neg h]
  cases neg
  · simp only [Bool.false_eq_true, if_false]
    omega
  · simp only [if_true]
    omega

@[simp] theorem negOf_pack (neg : Bool) {m : Nat} (h : m < 2 ^ 63) : negOf (pack neg m) = neg := by
  unfold negOf
  rw [toNat_pack neg h]
  cases neg
  · simpa using h
  · simp

theorem pack_sign_mag (a : F) : pack (negOf a) (magOf a) = a := by
  apply BitVec.eq_of_toNat_eq
  rw [toNat_pack _ (magOf_lt a), toNat_eq_sign_add_mag a]

/-- Rounding never passes an infinity. -/
theorem roundMag_le_infMag (n d : Nat) : roundMag n d ≤ infMag := by
  unfold roundMag
  exact Nat.min_le_right _ _

theorem roundMag_lt (n d : Nat) : roundMag n d < 2 ^ 63 := lt_of_le_of_lt (roundMag_le_infMag n d) infMag_lt

/-- A rounded result is a number or an infinity. -/
@[simp] theorem fIsNaN_pack_roundMag (neg : Bool) (n d : Nat) : fIsNaN (pack neg (roundMag n d)) = false := by
  unfold fIsNaN
  rw [magOf_pack neg (roundMag_lt n d)]
  simpa using roundMag_le_infMag n d

@[simp] theorem fIsNaN_fOfRatio (n d : Nat) : fIsNaN (fOfRatio n d) = false := by
  unfold fOfRatio
  exact fIsNaN_pack_roundMag _ _ _

@[simp] theorem fIsNaN_fOfNat (n : Nat) : fIsNaN (fOfNat n) = false := by
  unfold fOfNat
  split
  · decide
  · exact fIsNaN_fOfRatio n 1

@[simp] theorem fIsNaN_qnan : fIsNaN qnan = true := by decide

/-! ### NaN propagates (decisions D4, D6) -/

theorem fAdd_nan_left {a : F} (b : F) (h : fIsNaN a = true) : fAdd a b = qnan := by simp [fAdd, h]

theorem fAdd_nan_right (a : F) {b : F} (h : fIsNaN b = true) : fAdd a b = qnan := by simp [fAdd, h]

theorem fMul_nan_left {a : F} (b : F) (h : fIsNaN a = true) : fMul a b = qnan := by simp [fMul, h]

theorem fMul_nan_right (a : F) {b : F} (h : fIsNaN b = true) : fMul a b = qnan := by simp [fMul, h]

theorem fDiv_nan_left {a : F} (b : F) (h : fIsNaN a = true) : fDiv a b = qnan := by simp [fDiv, h]

theorem fDiv_nan_right (a : F) {b : F} (h : fIsNaN b = true) : fDiv a b = qnan := by simp [fDiv, h]

theorem fSqrt_nan {a : F} (h : fIsNaN a = true) : fSqrt a = qnan := by simp [fSqrt, h]

theorem fLt_nan_left {a : F} (b : F) (h : fIsNaN a = true) : fLt a b = false := by simp [fLt, h]

theorem fLt_nan_right (a : F) {b : F} (h : fIsNaN b = true) : fLt a b = false := by simp [fLt, h]

theorem fEq_nan_left {a : F} (b : F) (h : fIsNaN a = true) : fEq a b = false := by simp [fEq, h]

theorem fEq_nan_right (a : F) {b : F} (h : fIsNaN b = true) : fEq a b = false := by simp [fEq, h]

/-- Turning the sign around keeps bits 62:0. -/
@[simp] theorem magOf_fNeg (a : F) : magOf (fNeg a) = magOf a := by
  have h : (fNeg a).toNat % 2 ^ 63 = a.toNat % 2 ^ 63 := by
    rw [fNeg, BitVec.toNat_xor, Nat.xor_mod_two_pow]
    simp
  exact h

@[simp] theorem fIsNaN_fNeg (a : F) : fIsNaN (fNeg a) = fIsNaN a := by simp [fIsNaN]

theorem fSub_nan_left {a : F} (b : F) (h : fIsNaN a = true) : fSub a b = qnan := fAdd_nan_left _ h

theorem fSub_nan_right (a : F) {b : F} (h : fIsNaN b = true) : fSub a b = qnan := fAdd_nan_right a (by simpa using h)

/-- The root of a negative number is the sentinel (rule R116). -/
theorem fSqrt_negative {a : F} (h : fLt a 0#64 = true) : fSqrt a = qnan := by
  unfold fLt at h
  simp only [Bool.and_eq_true, Bool.not_eq_true', decide_eq_true_eq] at h
  obtain ⟨⟨hn, -⟩, hlt⟩ := h
  have h0 : orderKey (0#64 : F) = 0 := by decide
  rw [h0] at hlt
  unfold orderKey at hlt
  by_cases hs : negOf a
  · simp only [hs, if_true] at hlt
    have hm : magOf a ≠ 0 := by omega
    simp [fSqrt, hn, hm, hs]
  · simp only [hs] at hlt
    exact absurd hlt (by simp)

/-! ### The sentinel (decision D4) -/

/-- Whatever bits it is made of, the sentinel is a NaN. -/
@[simp] theorem fIsNaN_nanOfBits (b : BitVec 64) : fIsNaN (nanOfBits b) = true := by
  unfold nanOfBits fIsNaN magOf
  rw [decide_eq_true_eq]
  split
  · rw [BitVec.toNat_or, Nat.or_mod_two_pow]
    have h : infMag < 0x7FF0000000000001 % 2 ^ 63 := by decide
    exact lt_of_lt_of_le h Nat.right_le_or
  · next hb =>
    rw [BitVec.toNat_or, Nat.or_mod_two_pow]
    have hi : (0x7FF0000000000000#64).toNat % 2 ^ 63 = infMag := by decide
    rw [hi]
    refine lt_of_le_of_ne Nat.right_le_or fun he => hb ?_
    apply BitVec.eq_of_toNat_eq
    rw [BitVec.toNat_and]
    have hf : (0x000FFFFFFFFFFFFF#64).toNat = 2 ^ 52 - 1 := by decide
    have h1 : (b.toNat % 2 ^ 63 ||| infMag) % 2 ^ 52 = infMag % 2 ^ 52 := by rw [← he]
    rw [Nat.or_mod_two_pow, Nat.mod_mod_of_dvd _ (by decide : 2 ^ 52 ∣ 2 ^ 63)] at h1
    have h2 : infMag % 2 ^ 52 = 0 := by decide
    rw [h2, Nat.or_zero] at h1
    rw [hf, Nat.and_two_pow_sub_one_eq_mod, h1]
    rfl

@[simp] theorem fIsNaN_sentinel (n : Nat) : fIsNaN (sentinel n) = true := fIsNaN_nanOfBits _

/-- A settled value is the value itself, or both are NaN. -/
theorem settle_cases (n : Nat) (v : F) : settle n v = v ∨ (fIsNaN (settle n v) = true ∧ fIsNaN v = true) := by
  unfold settle
  by_cases h : fIsNaN v = true
  · right; simp [h]
  · left; simp [h]

theorem settle_of_not_nan (n : Nat) {v : F} (h : fIsNaN v = false) : settle n v = v := by simp [settle, h]

@[simp] theorem fIsNaN_settle (n : Nat) (v : F) : fIsNaN (settle n v) = fIsNaN v := by
  rcases settle_cases n v with h | ⟨h1, h2⟩
  · rw [h]
  · rw [h1, h2]

/-! ### Patterns and the amounts they stand for -/

/-- The pattern `sh * 2^52 + t` counts `t * 2^sh` units, for a significand `t` that fills its 53 bits or stands in
the lowest binade; a significand of `2^53` has carried into the next binade. -/
theorem unitsOf_significand {sh t : Nat} (ht : t ≤ 2 ^ 53) (hs : sh = 0 ∨ 2 ^ 52 ≤ t) :
    unitsOf (sh * 2 ^ 52 + t) = t * 2 ^ sh := by
  have h52 : (0 : Nat) < 2 ^ 52 := by decide
  unfold unitsOf
  rw [Nat.mul_add_mod', Nat.add_comm (sh * 2 ^ 52) t, Nat.add_mul_div_right _ _ h52]
  rcases Nat.lt_or_ge t (2 ^ 52) with h | h
  · obtain rfl : sh = 0 := by omega
    rw [Nat.div_eq_of_lt h, Nat.mod_eq_of_lt h]
    simp
  · rcases Nat.lt_or_ge t (2 ^ 53) with h3 | h3
    · have e : t / 2 ^ 52 = 1 := by omega
      have e2 : t % 2 ^ 52 = t - 2 ^ 52 := by omega
      rw [e, e2, if_neg (by omega), Nat.add_sub_cancel' h, Nat.add_sub_cancel_left]
    · obtain rfl : t = 2 ^ 53 := by omega
      have e : 2 ^ 53 / 2 ^ 52 = 2 := by decide
      have e2 : 2 ^ 53 % 2 ^ 52 = 0 := by decide
      rw [e, e2, if_neg (by omega), show 2 + sh - 1 = sh + 1 by omega, pow_succ]
      omega

/-- The parts of a pattern: its significand and its binade. -/
theorem pattern_parts (m : Nat) :
    ∃ sh t, m = sh * 2 ^ 52 + t ∧ t < 2 ^ 53 ∧ (sh = 0 ∨ 2 ^ 52 ≤ t) := by
  rcases Nat.lt_or_ge m (2 ^ 53) with h | h
  · exact ⟨0, m, by simp, h, .inl rfl⟩
  · exact ⟨m / 2 ^ 52 - 1, 2 ^ 52 + m % 2 ^ 52, by omega, by omega, .inr (by omega)⟩

/-- Patterns are ordered as the amounts they stand for. -/
theorem unitsOf_lt {m n : Nat} (h : m < n) : unitsOf m < unitsOf n := by
  obtain ⟨a, t, rfl, ht, ha⟩ := pattern_parts m
  obtain ⟨b, u, rfl, hu, hb⟩ := pattern_parts n
  rw [unitsOf_significand ht.le ha, unitsOf_significand hu.le hb]
  have hp : ∀ k, 0 < 2 ^ k := fun k => Nat.two_pow_pos k
  rcases Nat.lt_trichotomy a b with hab | rfl | hab
  · have h2 : 2 ^ 52 ≤ u := by omega
    calc t * 2 ^ a < 2 ^ 53 * 2 ^ a := Nat.mul_lt_mul_of_pos_right ht (hp a)
      _ = 2 ^ 52 * 2 ^ (a + 1) := by rw [pow_succ]; ring
      _ ≤ 2 ^ 52 * 2 ^ b := Nat.mul_le_mul_left _ (Nat.pow_le_pow_right (by decide) hab)
      _ ≤ u * 2 ^ b := Nat.mul_le_mul_right _ h2
  · exact Nat.mul_lt_mul_of_pos_right (by omega) (hp a)
  · exfalso
    omega

/-- What rounding does before it meets the range: the quotient by `q` and what is left of it. -/
theorem roundMag_parts (n d : Nat) :
    ∃ sh t, t < 2 ^ 53 ∧ (sh = 0 ∨ 2 ^ 52 ≤ t) ∧ t = n / (d * 2 ^ sh) ∧
      roundMag n d = min (sh * 2 ^ 52 + (t + roundsUp t (n % (d * 2 ^ sh)) (d * 2 ^ sh))) infMag := by
  refine ⟨Nat.log2 (n / d) - 52, n / (d * 2 ^ (Nat.log2 (n / d) - 52)), ?_, ?_, rfl, by unfold roundMag; rfl⟩
  · rw [← Nat.div_div_eq_div_mul]
    rcases Nat.eq_zero_or_pos (n / d) with h | h
    · rw [h]; simp
    · rw [Nat.div_lt_iff_lt_mul (by positivity), ← pow_add]
      calc n / d < 2 ^ (Nat.log2 (n / d) + 1) := Nat.lt_log2_self
        _ ≤ _ := Nat.pow_le_pow_right (by decide) (by omega)
  · rw [← Nat.div_div_eq_div_mul]
    by_cases h : Nat.log2 (n / d) ≤ 52
    · left; omega
    · right
      have hne : n / d ≠ 0 := by rintro h0; rw [h0] at h; exact h (by decide)
      rw [Nat.le_div_iff_mul_le (by positivity), ← pow_add]
      calc 2 ^ (52 + (Nat.log2 (n / d) - 52)) = 2 ^ Nat.log2 (n / d) := by congr 1; omega
        _ ≤ n / d := Nat.log2_self_le hne

/-! ### The integer square root -/

/-- From a root `r` that is right but for its last `b` digits, `sqrtDigits` reaches the integer root. -/
theorem sqrtDigits_spec (n b r : Nat) (hlo : r * r ≤ n) (hhi : n < (r + 2 ^ b) * (r + 2 ^ b)) :
    sqrtDigits n b r * sqrtDigits n b r ≤ n ∧ n < (sqrtDigits n b r + 1) * (sqrtDigits n b r + 1) := by
  induction b generalizing r with
  | zero => exact ⟨hlo, by simpa [sqrtDigits] using hhi⟩
  | succ b ih =>
    have h2 : r + 2 ^ (b + 1) = (r + 2 ^ b) + 2 ^ b := by rw [pow_succ]; omega
    rw [sqrtDigits]
    split
    · next h => exact ih _ h (h2 ▸ hhi)
    · next h => exact ih _ hlo (not_le.mp h)

/-- The integer square root of a number below `4^b`. -/
theorem sqrtDigits_isRoot {n b : Nat} (h : n < 4 ^ b) :
    sqrtDigits n b 0 * sqrtDigits n b 0 ≤ n ∧ n < (sqrtDigits n b 0 + 1) * (sqrtDigits n b 0 + 1) := by
  refine sqrtDigits_spec n b 0 (by simp) ?_
  have h4 : (0 + 2 ^ b) * (0 + 2 ^ b) = 4 ^ b := by
    rw [Nat.zero_add, ← Nat.mul_pow]
  rwa [h4]

end Sys2Proof.Machine
end

