-- ==== Sys2Proof/Laws/State.lean ====
section
/-! SUPPORT. One lemma per field per update of State, so that no later proof unfolds a record update. -/

namespace Sys2Proof.Machine

/-! ### setFault -/
section
variable (s : State) (v : Bool)

@[simp] theorem State.setFault_x0 : (s.setFault v).x0 = s.x0 := rfl
@[simp] theorem State.setFault_x1 : (s.setFault v).x1 = s.x1 := rfl
@[simp] theorem State.setFault_x2 : (s.setFault v).x2 = s.x2 := rfl
@[simp] theorem State.setFault_x3 : (s.setFault v).x3 = s.x3 := rfl
@[simp] theorem State.setFault_calOffset : (s.setFault v).calOffset = s.calOffset := rfl
@[simp] theorem State.setFault_calSlope : (s.setFault v).calSlope = s.calSlope := rfl
@[simp] theorem State.setFault_r0cfg : (s.setFault v).r0cfg = s.r0cfg := rfl
@[simp] theorem State.setFault_curve : (s.setFault v).curve = s.curve := rfl
@[simp] theorem State.setFault_fault : (s.setFault v).fault = v := rfl
@[simp] theorem State.setFault_valid : (s.setFault v).valid = s.valid := rfl
@[simp] theorem State.setFault_err : (s.setFault v).err = s.err := rfl
@[simp] theorem State.setFault_cause : (s.setFault v).cause = s.cause := rfl
@[simp] theorem State.setFault_rtdcode : (s.setFault v).rtdcode = s.rtdcode := rfl
@[simp] theorem State.setFault_hft : (s.setFault v).hft = s.hft := rfl
@[simp] theorem State.setFault_lft : (s.setFault v).lft = s.lft := rfl
@[simp] theorem State.setFault_fstat : (s.setFault v).fstat = s.fstat := rfl
@[simp] theorem State.setFault_cfgrd : (s.setFault v).cfgrd = s.cfgrd := rfl
@[simp] theorem State.setFault_fb : (s.setFault v).fb = s.fb := rfl
@[simp] theorem State.setFault_cs : (s.setFault v).cs = s.cs := rfl
@[simp] theorem State.setFault_seq : (s.setFault v).seq = s.seq := rfl
@[simp] theorem State.setFault_cmd : (s.setFault v).cmd = s.cmd := rfl
@[simp] theorem State.setFault_trace : (s.setFault v).trace = s.trace := rfl
@[simp] theorem State.setFault_params : (s.setFault v).params = s.params := rfl
@[simp] theorem State.setFault_program : (s.setFault v).program = s.program := rfl
@[simp] theorem State.setFault_reads : (s.setFault v).reads = s.reads := rfl
@[simp] theorem State.setFault_script : (s.setFault v).script = s.script := rfl
@[simp] theorem State.setFault_draws : (s.setFault v).draws = s.draws := rfl

end

/-! ### setValid -/
section
variable (s : State) (v : Bool)

@[simp] theorem State.setValid_x0 : (s.setValid v).x0 = s.x0 := rfl
@[simp] theorem State.setValid_x1 : (s.setValid v).x1 = s.x1 := rfl
@[simp] theorem State.setValid_x2 : (s.setValid v).x2 = s.x2 := rfl
@[simp] theorem State.setValid_x3 : (s.setValid v).x3 = s.x3 := rfl
@[simp] theorem State.setValid_calOffset : (s.setValid v).calOffset = s.calOffset := rfl
@[simp] theorem State.setValid_calSlope : (s.setValid v).calSlope = s.calSlope := rfl
@[simp] theorem State.setValid_r0cfg : (s.setValid v).r0cfg = s.r0cfg := rfl
@[simp] theorem State.setValid_curve : (s.setValid v).curve = s.curve := rfl
@[simp] theorem State.setValid_fault : (s.setValid v).fault = s.fault := rfl
@[simp] theorem State.setValid_valid : (s.setValid v).valid = v := rfl
@[simp] theorem State.setValid_err : (s.setValid v).err = s.err := rfl
@[simp] theorem State.setValid_cause : (s.setValid v).cause = s.cause := rfl
@[simp] theorem State.setValid_rtdcode : (s.setValid v).rtdcode = s.rtdcode := rfl
@[simp] theorem State.setValid_hft : (s.setValid v).hft = s.hft := rfl
@[simp] theorem State.setValid_lft : (s.setValid v).lft = s.lft := rfl
@[simp] theorem State.setValid_fstat : (s.setValid v).fstat = s.fstat := rfl
@[simp] theorem State.setValid_cfgrd : (s.setValid v).cfgrd = s.cfgrd := rfl
@[simp] theorem State.setValid_fb : (s.setValid v).fb = s.fb := rfl
@[simp] theorem State.setValid_cs : (s.setValid v).cs = s.cs := rfl
@[simp] theorem State.setValid_seq : (s.setValid v).seq = s.seq := rfl
@[simp] theorem State.setValid_cmd : (s.setValid v).cmd = s.cmd := rfl
@[simp] theorem State.setValid_trace : (s.setValid v).trace = s.trace := rfl
@[simp] theorem State.setValid_params : (s.setValid v).params = s.params := rfl
@[simp] theorem State.setValid_program : (s.setValid v).program = s.program := rfl
@[simp] theorem State.setValid_reads : (s.setValid v).reads = s.reads := rfl
@[simp] theorem State.setValid_script : (s.setValid v).script = s.script := rfl
@[simp] theorem State.setValid_draws : (s.setValid v).draws = s.draws := rfl

end

/-! ### setErrCause -/
section
variable (s : State) (e : Bool) (c : BitVec 2)

@[simp] theorem State.setErrCause_x0 : (s.setErrCause e c).x0 = s.x0 := rfl
@[simp] theorem State.setErrCause_x1 : (s.setErrCause e c).x1 = s.x1 := rfl
@[simp] theorem State.setErrCause_x2 : (s.setErrCause e c).x2 = s.x2 := rfl
@[simp] theorem State.setErrCause_x3 : (s.setErrCause e c).x3 = s.x3 := rfl
@[simp] theorem State.setErrCause_calOffset : (s.setErrCause e c).calOffset = s.calOffset := rfl
@[simp] theorem State.setErrCause_calSlope : (s.setErrCause e c).calSlope = s.calSlope := rfl
@[simp] theorem State.setErrCause_r0cfg : (s.setErrCause e c).r0cfg = s.r0cfg := rfl
@[simp] theorem State.setErrCause_curve : (s.setErrCause e c).curve = s.curve := rfl
@[simp] theorem State.setErrCause_fault : (s.setErrCause e c).fault = s.fault := rfl
@[simp] theorem State.setErrCause_valid : (s.setErrCause e c).valid = s.valid := rfl
@[simp] theorem State.setErrCause_err : (s.setErrCause e c).err = e := rfl
@[simp] theorem State.setErrCause_cause : (s.setErrCause e c).cause = c := rfl
@[simp] theorem State.setErrCause_rtdcode : (s.setErrCause e c).rtdcode = s.rtdcode := rfl
@[simp] theorem State.setErrCause_hft : (s.setErrCause e c).hft = s.hft := rfl
@[simp] theorem State.setErrCause_lft : (s.setErrCause e c).lft = s.lft := rfl
@[simp] theorem State.setErrCause_fstat : (s.setErrCause e c).fstat = s.fstat := rfl
@[simp] theorem State.setErrCause_cfgrd : (s.setErrCause e c).cfgrd = s.cfgrd := rfl
@[simp] theorem State.setErrCause_fb : (s.setErrCause e c).fb = s.fb := rfl
@[simp] theorem State.setErrCause_cs : (s.setErrCause e c).cs = s.cs := rfl
@[simp] theorem State.setErrCause_seq : (s.setErrCause e c).seq = s.seq := rfl
@[simp] theorem State.setErrCause_cmd : (s.setErrCause e c).cmd = s.cmd := rfl
@[simp] theorem State.setErrCause_trace : (s.setErrCause e c).trace = s.trace := rfl
@[simp] theorem State.setErrCause_params : (s.setErrCause e c).params = s.params := rfl
@[simp] theorem State.setErrCause_program : (s.setErrCause e c).program = s.program := rfl
@[simp] theorem State.setErrCause_reads : (s.setErrCause e c).reads = s.reads := rfl
@[simp] theorem State.setErrCause_script : (s.setErrCause e c).script = s.script := rfl
@[simp] theorem State.setErrCause_draws : (s.setErrCause e c).draws = s.draws := rfl

end

/-! ### setX0 -/
section
variable (s : State) (v : F)

@[simp] theorem State.setX0_x0 : (s.setX0 v).x0 = v := rfl
@[simp] theorem State.setX0_x1 : (s.setX0 v).x1 = s.x1 := rfl
@[simp] theorem State.setX0_x2 : (s.setX0 v).x2 = s.x2 := rfl
@[simp] theorem State.setX0_x3 : (s.setX0 v).x3 = s.x3 := rfl
@[simp] theorem State.setX0_calOffset : (s.setX0 v).calOffset = s.calOffset := rfl
@[simp] theorem State.setX0_calSlope : (s.setX0 v).calSlope = s.calSlope := rfl
@[simp] theorem State.setX0_r0cfg : (s.setX0 v).r0cfg = s.r0cfg := rfl
@[simp] theorem State.setX0_curve : (s.setX0 v).curve = s.curve := rfl
@[simp] theorem State.setX0_fault : (s.setX0 v).fault = s.fault := rfl
@[simp] theorem State.setX0_valid : (s.setX0 v).valid = s.valid := rfl
@[simp] theorem State.setX0_err : (s.setX0 v).err = s.err := rfl
@[simp] theorem State.setX0_cause : (s.setX0 v).cause = s.cause := rfl
@[simp] theorem State.setX0_rtdcode : (s.setX0 v).rtdcode = s.rtdcode := rfl
@[simp] theorem State.setX0_hft : (s.setX0 v).hft = s.hft := rfl
@[simp] theorem State.setX0_lft : (s.setX0 v).lft = s.lft := rfl
@[simp] theorem State.setX0_fstat : (s.setX0 v).fstat = s.fstat := rfl
@[simp] theorem State.setX0_cfgrd : (s.setX0 v).cfgrd = s.cfgrd := rfl
@[simp] theorem State.setX0_fb : (s.setX0 v).fb = s.fb := rfl
@[simp] theorem State.setX0_cs : (s.setX0 v).cs = s.cs := rfl
@[simp] theorem State.setX0_seq : (s.setX0 v).seq = s.seq := rfl
@[simp] theorem State.setX0_cmd : (s.setX0 v).cmd = s.cmd := rfl
@[simp] theorem State.setX0_trace : (s.setX0 v).trace = s.trace := rfl
@[simp] theorem State.setX0_params : (s.setX0 v).params = s.params := rfl
@[simp] theorem State.setX0_program : (s.setX0 v).program = s.program := rfl
@[simp] theorem State.setX0_reads : (s.setX0 v).reads = s.reads := rfl
@[simp] theorem State.setX0_script : (s.setX0 v).script = s.script := rfl
@[simp] theorem State.setX0_draws : (s.setX0 v).draws = s.draws := rfl

end

/-! ### setX1 -/
section
variable (s : State) (v : F)

@[simp] theorem State.setX1_x0 : (s.setX1 v).x0 = s.x0 := rfl
@[simp] theorem State.setX1_x1 : (s.setX1 v).x1 = v := rfl
@[simp] theorem State.setX1_x2 : (s.setX1 v).x2 = s.x2 := rfl
@[simp] theorem State.setX1_x3 : (s.setX1 v).x3 = s.x3 := rfl
@[simp] theorem State.setX1_calOffset : (s.setX1 v).calOffset = s.calOffset := rfl
@[simp] theorem State.setX1_calSlope : (s.setX1 v).calSlope = s.calSlope := rfl
@[simp] theorem State.setX1_r0cfg : (s.setX1 v).r0cfg = s.r0cfg := rfl
@[simp] theorem State.setX1_curve : (s.setX1 v).curve = s.curve := rfl
@[simp] theorem State.setX1_fault : (s.setX1 v).fault = s.fault := rfl
@[simp] theorem State.setX1_valid : (s.setX1 v).valid = s.valid := rfl
@[simp] theorem State.setX1_err : (s.setX1 v).err = s.err := rfl
@[simp] theorem State.setX1_cause : (s.setX1 v).cause = s.cause := rfl
@[simp] theorem State.setX1_rtdcode : (s.setX1 v).rtdcode = s.rtdcode := rfl
@[simp] theorem State.setX1_hft : (s.setX1 v).hft = s.hft := rfl
@[simp] theorem State.setX1_lft : (s.setX1 v).lft = s.lft := rfl
@[simp] theorem State.setX1_fstat : (s.setX1 v).fstat = s.fstat := rfl
@[simp] theorem State.setX1_cfgrd : (s.setX1 v).cfgrd = s.cfgrd := rfl
@[simp] theorem State.setX1_fb : (s.setX1 v).fb = s.fb := rfl
@[simp] theorem State.setX1_cs : (s.setX1 v).cs = s.cs := rfl
@[simp] theorem State.setX1_seq : (s.setX1 v).seq = s.seq := rfl
@[simp] theorem State.setX1_cmd : (s.setX1 v).cmd = s.cmd := rfl
@[simp] theorem State.setX1_trace : (s.setX1 v).trace = s.trace := rfl
@[simp] theorem State.setX1_params : (s.setX1 v).params = s.params := rfl
@[simp] theorem State.setX1_program : (s.setX1 v).program = s.program := rfl
@[simp] theorem State.setX1_reads : (s.setX1 v).reads = s.reads := rfl
@[simp] theorem State.setX1_script : (s.setX1 v).script = s.script := rfl
@[simp] theorem State.setX1_draws : (s.setX1 v).draws = s.draws := rfl

end

/-! ### setX2 -/
section
variable (s : State) (v : F)

@[simp] theorem State.setX2_x0 : (s.setX2 v).x0 = s.x0 := rfl
@[simp] theorem State.setX2_x1 : (s.setX2 v).x1 = s.x1 := rfl
@[simp] theorem State.setX2_x2 : (s.setX2 v).x2 = v := rfl
@[simp] theorem State.setX2_x3 : (s.setX2 v).x3 = s.x3 := rfl
@[simp] theorem State.setX2_calOffset : (s.setX2 v).calOffset = s.calOffset := rfl
@[simp] theorem State.setX2_calSlope : (s.setX2 v).calSlope = s.calSlope := rfl
@[simp] theorem State.setX2_r0cfg : (s.setX2 v).r0cfg = s.r0cfg := rfl
@[simp] theorem State.setX2_curve : (s.setX2 v).curve = s.curve := rfl
@[simp] theorem State.setX2_fault : (s.setX2 v).fault = s.fault := rfl
@[simp] theorem State.setX2_valid : (s.setX2 v).valid = s.valid := rfl
@[simp] theorem State.setX2_err : (s.setX2 v).err = s.err := rfl
@[simp] theorem State.setX2_cause : (s.setX2 v).cause = s.cause := rfl
@[simp] theorem State.setX2_rtdcode : (s.setX2 v).rtdcode = s.rtdcode := rfl
@[simp] theorem State.setX2_hft : (s.setX2 v).hft = s.hft := rfl
@[simp] theorem State.setX2_lft : (s.setX2 v).lft = s.lft := rfl
@[simp] theorem State.setX2_fstat : (s.setX2 v).fstat = s.fstat := rfl
@[simp] theorem State.setX2_cfgrd : (s.setX2 v).cfgrd = s.cfgrd := rfl
@[simp] theorem State.setX2_fb : (s.setX2 v).fb = s.fb := rfl
@[simp] theorem State.setX2_cs : (s.setX2 v).cs = s.cs := rfl
@[simp] theorem State.setX2_seq : (s.setX2 v).seq = s.seq := rfl
@[simp] theorem State.setX2_cmd : (s.setX2 v).cmd = s.cmd := rfl
@[simp] theorem State.setX2_trace : (s.setX2 v).trace = s.trace := rfl
@[simp] theorem State.setX2_params : (s.setX2 v).params = s.params := rfl
@[simp] theorem State.setX2_program : (s.setX2 v).program = s.program := rfl
@[simp] theorem State.setX2_reads : (s.setX2 v).reads = s.reads := rfl
@[simp] theorem State.setX2_script : (s.setX2 v).script = s.script := rfl
@[simp] theorem State.setX2_draws : (s.setX2 v).draws = s.draws := rfl

end

/-! ### setX3 -/
section
variable (s : State) (v : F)

@[simp] theorem State.setX3_x0 : (s.setX3 v).x0 = s.x0 := rfl
@[simp] theorem State.setX3_x1 : (s.setX3 v).x1 = s.x1 := rfl
@[simp] theorem State.setX3_x2 : (s.setX3 v).x2 = s.x2 := rfl
@[simp] theorem State.setX3_x3 : (s.setX3 v).x3 = v := rfl
@[simp] theorem State.setX3_calOffset : (s.setX3 v).calOffset = s.calOffset := rfl
@[simp] theorem State.setX3_calSlope : (s.setX3 v).calSlope = s.calSlope := rfl
@[simp] theorem State.setX3_r0cfg : (s.setX3 v).r0cfg = s.r0cfg := rfl
@[simp] theorem State.setX3_curve : (s.setX3 v).curve = s.curve := rfl
@[simp] theorem State.setX3_fault : (s.setX3 v).fault = s.fault := rfl
@[simp] theorem State.setX3_valid : (s.setX3 v).valid = s.valid := rfl
@[simp] theorem State.setX3_err : (s.setX3 v).err = s.err := rfl
@[simp] theorem State.setX3_cause : (s.setX3 v).cause = s.cause := rfl
@[simp] theorem State.setX3_rtdcode : (s.setX3 v).rtdcode = s.rtdcode := rfl
@[simp] theorem State.setX3_hft : (s.setX3 v).hft = s.hft := rfl
@[simp] theorem State.setX3_lft : (s.setX3 v).lft = s.lft := rfl
@[simp] theorem State.setX3_fstat : (s.setX3 v).fstat = s.fstat := rfl
@[simp] theorem State.setX3_cfgrd : (s.setX3 v).cfgrd = s.cfgrd := rfl
@[simp] theorem State.setX3_fb : (s.setX3 v).fb = s.fb := rfl
@[simp] theorem State.setX3_cs : (s.setX3 v).cs = s.cs := rfl
@[simp] theorem State.setX3_seq : (s.setX3 v).seq = s.seq := rfl
@[simp] theorem State.setX3_cmd : (s.setX3 v).cmd = s.cmd := rfl
@[simp] theorem State.setX3_trace : (s.setX3 v).trace = s.trace := rfl
@[simp] theorem State.setX3_params : (s.setX3 v).params = s.params := rfl
@[simp] theorem State.setX3_program : (s.setX3 v).program = s.program := rfl
@[simp] theorem State.setX3_reads : (s.setX3 v).reads = s.reads := rfl
@[simp] theorem State.setX3_script : (s.setX3 v).script = s.script := rfl
@[simp] theorem State.setX3_draws : (s.setX3 v).draws = s.draws := rfl

end

/-! ### setCalOffset -/
section
variable (s : State) (v : F)

@[simp] theorem State.setCalOffset_x0 : (s.setCalOffset v).x0 = s.x0 := rfl
@[simp] theorem State.setCalOffset_x1 : (s.setCalOffset v).x1 = s.x1 := rfl
@[simp] theorem State.setCalOffset_x2 : (s.setCalOffset v).x2 = s.x2 := rfl
@[simp] theorem State.setCalOffset_x3 : (s.setCalOffset v).x3 = s.x3 := rfl
@[simp] theorem State.setCalOffset_calOffset : (s.setCalOffset v).calOffset = v := rfl
@[simp] theorem State.setCalOffset_calSlope : (s.setCalOffset v).calSlope = s.calSlope := rfl
@[simp] theorem State.setCalOffset_r0cfg : (s.setCalOffset v).r0cfg = s.r0cfg := rfl
@[simp] theorem State.setCalOffset_curve : (s.setCalOffset v).curve = s.curve := rfl
@[simp] theorem State.setCalOffset_fault : (s.setCalOffset v).fault = s.fault := rfl
@[simp] theorem State.setCalOffset_valid : (s.setCalOffset v).valid = s.valid := rfl
@[simp] theorem State.setCalOffset_err : (s.setCalOffset v).err = s.err := rfl
@[simp] theorem State.setCalOffset_cause : (s.setCalOffset v).cause = s.cause := rfl
@[simp] theorem State.setCalOffset_rtdcode : (s.setCalOffset v).rtdcode = s.rtdcode := rfl
@[simp] theorem State.setCalOffset_hft : (s.setCalOffset v).hft = s.hft := rfl
@[simp] theorem State.setCalOffset_lft : (s.setCalOffset v).lft = s.lft := rfl
@[simp] theorem State.setCalOffset_fstat : (s.setCalOffset v).fstat = s.fstat := rfl
@[simp] theorem State.setCalOffset_cfgrd : (s.setCalOffset v).cfgrd = s.cfgrd := rfl
@[simp] theorem State.setCalOffset_fb : (s.setCalOffset v).fb = s.fb := rfl
@[simp] theorem State.setCalOffset_cs : (s.setCalOffset v).cs = s.cs := rfl
@[simp] theorem State.setCalOffset_seq : (s.setCalOffset v).seq = s.seq := rfl
@[simp] theorem State.setCalOffset_cmd : (s.setCalOffset v).cmd = s.cmd := rfl
@[simp] theorem State.setCalOffset_trace : (s.setCalOffset v).trace = s.trace := rfl
@[simp] theorem State.setCalOffset_params : (s.setCalOffset v).params = s.params := rfl
@[simp] theorem State.setCalOffset_program : (s.setCalOffset v).program = s.program := rfl
@[simp] theorem State.setCalOffset_reads : (s.setCalOffset v).reads = s.reads := rfl
@[simp] theorem State.setCalOffset_script : (s.setCalOffset v).script = s.script := rfl
@[simp] theorem State.setCalOffset_draws : (s.setCalOffset v).draws = s.draws := rfl

end

/-! ### setCalSlope -/
section
variable (s : State) (v : F)

@[simp] theorem State.setCalSlope_x0 : (s.setCalSlope v).x0 = s.x0 := rfl
@[simp] theorem State.setCalSlope_x1 : (s.setCalSlope v).x1 = s.x1 := rfl
@[simp] theorem State.setCalSlope_x2 : (s.setCalSlope v).x2 = s.x2 := rfl
@[simp] theorem State.setCalSlope_x3 : (s.setCalSlope v).x3 = s.x3 := rfl
@[simp] theorem State.setCalSlope_calOffset : (s.setCalSlope v).calOffset = s.calOffset := rfl
@[simp] theorem State.setCalSlope_calSlope : (s.setCalSlope v).calSlope = v := rfl
@[simp] theorem State.setCalSlope_r0cfg : (s.setCalSlope v).r0cfg = s.r0cfg := rfl
@[simp] theorem State.setCalSlope_curve : (s.setCalSlope v).curve = s.curve := rfl
@[simp] theorem State.setCalSlope_fault : (s.setCalSlope v).fault = s.fault := rfl
@[simp] theorem State.setCalSlope_valid : (s.setCalSlope v).valid = s.valid := rfl
@[simp] theorem State.setCalSlope_err : (s.setCalSlope v).err = s.err := rfl
@[simp] theorem State.setCalSlope_cause : (s.setCalSlope v).cause = s.cause := rfl
@[simp] theorem State.setCalSlope_rtdcode : (s.setCalSlope v).rtdcode = s.rtdcode := rfl
@[simp] theorem State.setCalSlope_hft : (s.setCalSlope v).hft = s.hft := rfl
@[simp] theorem State.setCalSlope_lft : (s.setCalSlope v).lft = s.lft := rfl
@[simp] theorem State.setCalSlope_fstat : (s.setCalSlope v).fstat = s.fstat := rfl
@[simp] theorem State.setCalSlope_cfgrd : (s.setCalSlope v).cfgrd = s.cfgrd := rfl
@[simp] theorem State.setCalSlope_fb : (s.setCalSlope v).fb = s.fb := rfl
@[simp] theorem State.setCalSlope_cs : (s.setCalSlope v).cs = s.cs := rfl
@[simp] theorem State.setCalSlope_seq : (s.setCalSlope v).seq = s.seq := rfl
@[simp] theorem State.setCalSlope_cmd : (s.setCalSlope v).cmd = s.cmd := rfl
@[simp] theorem State.setCalSlope_trace : (s.setCalSlope v).trace = s.trace := rfl
@[simp] theorem State.setCalSlope_params : (s.setCalSlope v).params = s.params := rfl
@[simp] theorem State.setCalSlope_program : (s.setCalSlope v).program = s.program := rfl
@[simp] theorem State.setCalSlope_reads : (s.setCalSlope v).reads = s.reads := rfl
@[simp] theorem State.setCalSlope_script : (s.setCalSlope v).script = s.script := rfl
@[simp] theorem State.setCalSlope_draws : (s.setCalSlope v).draws = s.draws := rfl

end

/-! ### setR0cfg -/
section
variable (s : State) (v : F)

@[simp] theorem State.setR0cfg_x0 : (s.setR0cfg v).x0 = s.x0 := rfl
@[simp] theorem State.setR0cfg_x1 : (s.setR0cfg v).x1 = s.x1 := rfl
@[simp] theorem State.setR0cfg_x2 : (s.setR0cfg v).x2 = s.x2 := rfl
@[simp] theorem State.setR0cfg_x3 : (s.setR0cfg v).x3 = s.x3 := rfl
@[simp] theorem State.setR0cfg_calOffset : (s.setR0cfg v).calOffset = s.calOffset := rfl
@[simp] theorem State.setR0cfg_calSlope : (s.setR0cfg v).calSlope = s.calSlope := rfl
@[simp] theorem State.setR0cfg_r0cfg : (s.setR0cfg v).r0cfg = v := rfl
@[simp] theorem State.setR0cfg_curve : (s.setR0cfg v).curve = s.curve := rfl
@[simp] theorem State.setR0cfg_fault : (s.setR0cfg v).fault = s.fault := rfl
@[simp] theorem State.setR0cfg_valid : (s.setR0cfg v).valid = s.valid := rfl
@[simp] theorem State.setR0cfg_err : (s.setR0cfg v).err = s.err := rfl
@[simp] theorem State.setR0cfg_cause : (s.setR0cfg v).cause = s.cause := rfl
@[simp] theorem State.setR0cfg_rtdcode : (s.setR0cfg v).rtdcode = s.rtdcode := rfl
@[simp] theorem State.setR0cfg_hft : (s.setR0cfg v).hft = s.hft := rfl
@[simp] theorem State.setR0cfg_lft : (s.setR0cfg v).lft = s.lft := rfl
@[simp] theorem State.setR0cfg_fstat : (s.setR0cfg v).fstat = s.fstat := rfl
@[simp] theorem State.setR0cfg_cfgrd : (s.setR0cfg v).cfgrd = s.cfgrd := rfl
@[simp] theorem State.setR0cfg_fb : (s.setR0cfg v).fb = s.fb := rfl
@[simp] theorem State.setR0cfg_cs : (s.setR0cfg v).cs = s.cs := rfl
@[simp] theorem State.setR0cfg_seq : (s.setR0cfg v).seq = s.seq := rfl
@[simp] theorem State.setR0cfg_cmd : (s.setR0cfg v).cmd = s.cmd := rfl
@[simp] theorem State.setR0cfg_trace : (s.setR0cfg v).trace = s.trace := rfl
@[simp] theorem State.setR0cfg_params : (s.setR0cfg v).params = s.params := rfl
@[simp] theorem State.setR0cfg_program : (s.setR0cfg v).program = s.program := rfl
@[simp] theorem State.setR0cfg_reads : (s.setR0cfg v).reads = s.reads := rfl
@[simp] theorem State.setR0cfg_script : (s.setR0cfg v).script = s.script := rfl
@[simp] theorem State.setR0cfg_draws : (s.setR0cfg v).draws = s.draws := rfl

end

/-! ### setCurve -/
section
variable (s : State) (v : BitVec 2)

@[simp] theorem State.setCurve_x0 : (s.setCurve v).x0 = s.x0 := rfl
@[simp] theorem State.setCurve_x1 : (s.setCurve v).x1 = s.x1 := rfl
@[simp] theorem State.setCurve_x2 : (s.setCurve v).x2 = s.x2 := rfl
@[simp] theorem State.setCurve_x3 : (s.setCurve v).x3 = s.x3 := rfl
@[simp] theorem State.setCurve_calOffset : (s.setCurve v).calOffset = s.calOffset := rfl
@[simp] theorem State.setCurve_calSlope : (s.setCurve v).calSlope = s.calSlope := rfl
@[simp] theorem State.setCurve_r0cfg : (s.setCurve v).r0cfg = s.r0cfg := rfl
@[simp] theorem State.setCurve_curve : (s.setCurve v).curve = v := rfl
@[simp] theorem State.setCurve_fault : (s.setCurve v).fault = s.fault := rfl
@[simp] theorem State.setCurve_valid : (s.setCurve v).valid = s.valid := rfl
@[simp] theorem State.setCurve_err : (s.setCurve v).err = s.err := rfl
@[simp] theorem State.setCurve_cause : (s.setCurve v).cause = s.cause := rfl
@[simp] theorem State.setCurve_rtdcode : (s.setCurve v).rtdcode = s.rtdcode := rfl
@[simp] theorem State.setCurve_hft : (s.setCurve v).hft = s.hft := rfl
@[simp] theorem State.setCurve_lft : (s.setCurve v).lft = s.lft := rfl
@[simp] theorem State.setCurve_fstat : (s.setCurve v).fstat = s.fstat := rfl
@[simp] theorem State.setCurve_cfgrd : (s.setCurve v).cfgrd = s.cfgrd := rfl
@[simp] theorem State.setCurve_fb : (s.setCurve v).fb = s.fb := rfl
@[simp] theorem State.setCurve_cs : (s.setCurve v).cs = s.cs := rfl
@[simp] theorem State.setCurve_seq : (s.setCurve v).seq = s.seq := rfl
@[simp] theorem State.setCurve_cmd : (s.setCurve v).cmd = s.cmd := rfl
@[simp] theorem State.setCurve_trace : (s.setCurve v).trace = s.trace := rfl
@[simp] theorem State.setCurve_params : (s.setCurve v).params = s.params := rfl
@[simp] theorem State.setCurve_program : (s.setCurve v).program = s.program := rfl
@[simp] theorem State.setCurve_reads : (s.setCurve v).reads = s.reads := rfl
@[simp] theorem State.setCurve_script : (s.setCurve v).script = s.script := rfl
@[simp] theorem State.setCurve_draws : (s.setCurve v).draws = s.draws := rfl

end

/-! ### setDecoded -/
section
variable (s : State) (p q : BitVec 15) (l : BitVec 16) (f : BitVec 8)

@[simp] theorem State.setDecoded_x0 : (s.setDecoded p q l f).x0 = s.x0 := rfl
@[simp] theorem State.setDecoded_x1 : (s.setDecoded p q l f).x1 = s.x1 := rfl
@[simp] theorem State.setDecoded_x2 : (s.setDecoded p q l f).x2 = s.x2 := rfl
@[simp] theorem State.setDecoded_x3 : (s.setDecoded p q l f).x3 = s.x3 := rfl
@[simp] theorem State.setDecoded_calOffset : (s.setDecoded p q l f).calOffset = s.calOffset := rfl
@[simp] theorem State.setDecoded_calSlope : (s.setDecoded p q l f).calSlope = s.calSlope := rfl
@[simp] theorem State.setDecoded_r0cfg : (s.setDecoded p q l f).r0cfg = s.r0cfg := rfl
@[simp] theorem State.setDecoded_curve : (s.setDecoded p q l f).curve = s.curve := rfl
@[simp] theorem State.setDecoded_fault : (s.setDecoded p q l f).fault = s.fault := rfl
@[simp] theorem State.setDecoded_valid : (s.setDecoded p q l f).valid = s.valid := rfl
@[simp] theorem State.setDecoded_err : (s.setDecoded p q l f).err = s.err := rfl
@[simp] theorem State.setDecoded_cause : (s.setDecoded p q l f).cause = s.cause := rfl
@[simp] theorem State.setDecoded_rtdcode : (s.setDecoded p q l f).rtdcode = p := rfl
@[simp] theorem State.setDecoded_hft : (s.setDecoded p q l f).hft = q := rfl
@[simp] theorem State.setDecoded_lft : (s.setDecoded p q l f).lft = l := rfl
@[simp] theorem State.setDecoded_fstat : (s.setDecoded p q l f).fstat = f := rfl
@[simp] theorem State.setDecoded_cfgrd : (s.setDecoded p q l f).cfgrd = s.cfgrd := rfl
@[simp] theorem State.setDecoded_fb : (s.setDecoded p q l f).fb = s.fb := rfl
@[simp] theorem State.setDecoded_cs : (s.setDecoded p q l f).cs = s.cs := rfl
@[simp] theorem State.setDecoded_seq : (s.setDecoded p q l f).seq = s.seq := rfl
@[simp] theorem State.setDecoded_cmd : (s.setDecoded p q l f).cmd = s.cmd := rfl
@[simp] theorem State.setDecoded_trace : (s.setDecoded p q l f).trace = s.trace := rfl
@[simp] theorem State.setDecoded_params : (s.setDecoded p q l f).params = s.params := rfl
@[simp] theorem State.setDecoded_program : (s.setDecoded p q l f).program = s.program := rfl
@[simp] theorem State.setDecoded_reads : (s.setDecoded p q l f).reads = s.reads := rfl
@[simp] theorem State.setDecoded_script : (s.setDecoded p q l f).script = s.script := rfl
@[simp] theorem State.setDecoded_draws : (s.setDecoded p q l f).draws = s.draws := rfl

end

/-! ### setCfgrd -/
section
variable (s : State) (v : BitVec 8)

@[simp] theorem State.setCfgrd_x0 : (s.setCfgrd v).x0 = s.x0 := rfl
@[simp] theorem State.setCfgrd_x1 : (s.setCfgrd v).x1 = s.x1 := rfl
@[simp] theorem State.setCfgrd_x2 : (s.setCfgrd v).x2 = s.x2 := rfl
@[simp] theorem State.setCfgrd_x3 : (s.setCfgrd v).x3 = s.x3 := rfl
@[simp] theorem State.setCfgrd_calOffset : (s.setCfgrd v).calOffset = s.calOffset := rfl
@[simp] theorem State.setCfgrd_calSlope : (s.setCfgrd v).calSlope = s.calSlope := rfl
@[simp] theorem State.setCfgrd_r0cfg : (s.setCfgrd v).r0cfg = s.r0cfg := rfl
@[simp] theorem State.setCfgrd_curve : (s.setCfgrd v).curve = s.curve := rfl
@[simp] theorem State.setCfgrd_fault : (s.setCfgrd v).fault = s.fault := rfl
@[simp] theorem State.setCfgrd_valid : (s.setCfgrd v).valid = s.valid := rfl
@[simp] theorem State.setCfgrd_err : (s.setCfgrd v).err = s.err := rfl
@[simp] theorem State.setCfgrd_cause : (s.setCfgrd v).cause = s.cause := rfl
@[simp] theorem State.setCfgrd_rtdcode : (s.setCfgrd v).rtdcode = s.rtdcode := rfl
@[simp] theorem State.setCfgrd_hft : (s.setCfgrd v).hft = s.hft := rfl
@[simp] theorem State.setCfgrd_lft : (s.setCfgrd v).lft = s.lft := rfl
@[simp] theorem State.setCfgrd_fstat : (s.setCfgrd v).fstat = s.fstat := rfl
@[simp] theorem State.setCfgrd_cfgrd : (s.setCfgrd v).cfgrd = v := rfl
@[simp] theorem State.setCfgrd_fb : (s.setCfgrd v).fb = s.fb := rfl
@[simp] theorem State.setCfgrd_cs : (s.setCfgrd v).cs = s.cs := rfl
@[simp] theorem State.setCfgrd_seq : (s.setCfgrd v).seq = s.seq := rfl
@[simp] theorem State.setCfgrd_cmd : (s.setCfgrd v).cmd = s.cmd := rfl
@[simp] theorem State.setCfgrd_trace : (s.setCfgrd v).trace = s.trace := rfl
@[simp] theorem State.setCfgrd_params : (s.setCfgrd v).params = s.params := rfl
@[simp] theorem State.setCfgrd_program : (s.setCfgrd v).program = s.program := rfl
@[simp] theorem State.setCfgrd_reads : (s.setCfgrd v).reads = s.reads := rfl
@[simp] theorem State.setCfgrd_script : (s.setCfgrd v).script = s.script := rfl
@[simp] theorem State.setCfgrd_draws : (s.setCfgrd v).draws = s.draws := rfl

end

/-! ### setFb -/
section
variable (s : State) (v : Frame)

@[simp] theorem State.setFb_x0 : (s.setFb v).x0 = s.x0 := rfl
@[simp] theorem State.setFb_x1 : (s.setFb v).x1 = s.x1 := rfl
@[simp] theorem State.setFb_x2 : (s.setFb v).x2 = s.x2 := rfl
@[simp] theorem State.setFb_x3 : (s.setFb v).x3 = s.x3 := rfl
@[simp] theorem State.setFb_calOffset : (s.setFb v).calOffset = s.calOffset := rfl
@[simp] theorem State.setFb_calSlope : (s.setFb v).calSlope = s.calSlope := rfl
@[simp] theorem State.setFb_r0cfg : (s.setFb v).r0cfg = s.r0cfg := rfl
@[simp] theorem State.setFb_curve : (s.setFb v).curve = s.curve := rfl
@[simp] theorem State.setFb_fault : (s.setFb v).fault = s.fault := rfl
@[simp] theorem State.setFb_valid : (s.setFb v).valid = s.valid := rfl
@[simp] theorem State.setFb_err : (s.setFb v).err = s.err := rfl
@[simp] theorem State.setFb_cause : (s.setFb v).cause = s.cause := rfl
@[simp] theorem State.setFb_rtdcode : (s.setFb v).rtdcode = s.rtdcode := rfl
@[simp] theorem State.setFb_hft : (s.setFb v).hft = s.hft := rfl
@[simp] theorem State.setFb_lft : (s.setFb v).lft = s.lft := rfl
@[simp] theorem State.setFb_fstat : (s.setFb v).fstat = s.fstat := rfl
@[simp] theorem State.setFb_cfgrd : (s.setFb v).cfgrd = s.cfgrd := rfl
@[simp] theorem State.setFb_fb : (s.setFb v).fb = v := rfl
@[simp] theorem State.setFb_cs : (s.setFb v).cs = s.cs := rfl
@[simp] theorem State.setFb_seq : (s.setFb v).seq = s.seq := rfl
@[simp] theorem State.setFb_cmd : (s.setFb v).cmd = s.cmd := rfl
@[simp] theorem State.setFb_trace : (s.setFb v).trace = s.trace := rfl
@[simp] theorem State.setFb_params : (s.setFb v).params = s.params := rfl
@[simp] theorem State.setFb_program : (s.setFb v).program = s.program := rfl
@[simp] theorem State.setFb_reads : (s.setFb v).reads = s.reads := rfl
@[simp] theorem State.setFb_script : (s.setFb v).script = s.script := rfl
@[simp] theorem State.setFb_draws : (s.setFb v).draws = s.draws := rfl

end

/-! ### setCs -/
section
variable (s : State) (v : ChipSelect)

@[simp] theorem State.setCs_x0 : (s.setCs v).x0 = s.x0 := rfl
@[simp] theorem State.setCs_x1 : (s.setCs v).x1 = s.x1 := rfl
@[simp] theorem State.setCs_x2 : (s.setCs v).x2 = s.x2 := rfl
@[simp] theorem State.setCs_x3 : (s.setCs v).x3 = s.x3 := rfl
@[simp] theorem State.setCs_calOffset : (s.setCs v).calOffset = s.calOffset := rfl
@[simp] theorem State.setCs_calSlope : (s.setCs v).calSlope = s.calSlope := rfl
@[simp] theorem State.setCs_r0cfg : (s.setCs v).r0cfg = s.r0cfg := rfl
@[simp] theorem State.setCs_curve : (s.setCs v).curve = s.curve := rfl
@[simp] theorem State.setCs_fault : (s.setCs v).fault = s.fault := rfl
@[simp] theorem State.setCs_valid : (s.setCs v).valid = s.valid := rfl
@[simp] theorem State.setCs_err : (s.setCs v).err = s.err := rfl
@[simp] theorem State.setCs_cause : (s.setCs v).cause = s.cause := rfl
@[simp] theorem State.setCs_rtdcode : (s.setCs v).rtdcode = s.rtdcode := rfl
@[simp] theorem State.setCs_hft : (s.setCs v).hft = s.hft := rfl
@[simp] theorem State.setCs_lft : (s.setCs v).lft = s.lft := rfl
@[simp] theorem State.setCs_fstat : (s.setCs v).fstat = s.fstat := rfl
@[simp] theorem State.setCs_cfgrd : (s.setCs v).cfgrd = s.cfgrd := rfl
@[simp] theorem State.setCs_fb : (s.setCs v).fb = s.fb := rfl
@[simp] theorem State.setCs_cs : (s.setCs v).cs = v := rfl
@[simp] theorem State.setCs_seq : (s.setCs v).seq = s.seq := rfl
@[simp] theorem State.setCs_cmd : (s.setCs v).cmd = s.cmd := rfl
@[simp] theorem State.setCs_trace : (s.setCs v).trace = s.trace := rfl
@[simp] theorem State.setCs_params : (s.setCs v).params = s.params := rfl
@[simp] theorem State.setCs_program : (s.setCs v).program = s.program := rfl
@[simp] theorem State.setCs_reads : (s.setCs v).reads = s.reads := rfl
@[simp] theorem State.setCs_script : (s.setCs v).script = s.script := rfl
@[simp] theorem State.setCs_draws : (s.setCs v).draws = s.draws := rfl

end

/-! ### setSeq -/
section
variable (s : State) (v : Phase)

@[simp] theorem State.setSeq_x0 : (s.setSeq v).x0 = s.x0 := rfl
@[simp] theorem State.setSeq_x1 : (s.setSeq v).x1 = s.x1 := rfl
@[simp] theorem State.setSeq_x2 : (s.setSeq v).x2 = s.x2 := rfl
@[simp] theorem State.setSeq_x3 : (s.setSeq v).x3 = s.x3 := rfl
@[simp] theorem State.setSeq_calOffset : (s.setSeq v).calOffset = s.calOffset := rfl
@[simp] theorem State.setSeq_calSlope : (s.setSeq v).calSlope = s.calSlope := rfl
@[simp] theorem State.setSeq_r0cfg : (s.setSeq v).r0cfg = s.r0cfg := rfl
@[simp] theorem State.setSeq_curve : (s.setSeq v).curve = s.curve := rfl
@[simp] theorem State.setSeq_fault : (s.setSeq v).fault = s.fault := rfl
@[simp] theorem State.setSeq_valid : (s.setSeq v).valid = s.valid := rfl
@[simp] theorem State.setSeq_err : (s.setSeq v).err = s.err := rfl
@[simp] theorem State.setSeq_cause : (s.setSeq v).cause = s.cause := rfl
@[simp] theorem State.setSeq_rtdcode : (s.setSeq v).rtdcode = s.rtdcode := rfl
@[simp] theorem State.setSeq_hft : (s.setSeq v).hft = s.hft := rfl
@[simp] theorem State.setSeq_lft : (s.setSeq v).lft = s.lft := rfl
@[simp] theorem State.setSeq_fstat : (s.setSeq v).fstat = s.fstat := rfl
@[simp] theorem State.setSeq_cfgrd : (s.setSeq v).cfgrd = s.cfgrd := rfl
@[simp] theorem State.setSeq_fb : (s.setSeq v).fb = s.fb := rfl
@[simp] theorem State.setSeq_cs : (s.setSeq v).cs = s.cs := rfl
@[simp] theorem State.setSeq_seq : (s.setSeq v).seq = v := rfl
@[simp] theorem State.setSeq_cmd : (s.setSeq v).cmd = s.cmd := rfl
@[simp] theorem State.setSeq_trace : (s.setSeq v).trace = s.trace := rfl
@[simp] theorem State.setSeq_params : (s.setSeq v).params = s.params := rfl
@[simp] theorem State.setSeq_program : (s.setSeq v).program = s.program := rfl
@[simp] theorem State.setSeq_reads : (s.setSeq v).reads = s.reads := rfl
@[simp] theorem State.setSeq_script : (s.setSeq v).script = s.script := rfl
@[simp] theorem State.setSeq_draws : (s.setSeq v).draws = s.draws := rfl

end

/-! ### setCmd -/
section
variable (s : State) (v : BitVec 8)

@[simp] theorem State.setCmd_x0 : (s.setCmd v).x0 = s.x0 := rfl
@[simp] theorem State.setCmd_x1 : (s.setCmd v).x1 = s.x1 := rfl
@[simp] theorem State.setCmd_x2 : (s.setCmd v).x2 = s.x2 := rfl
@[simp] theorem State.setCmd_x3 : (s.setCmd v).x3 = s.x3 := rfl
@[simp] theorem State.setCmd_calOffset : (s.setCmd v).calOffset = s.calOffset := rfl
@[simp] theorem State.setCmd_calSlope : (s.setCmd v).calSlope = s.calSlope := rfl
@[simp] theorem State.setCmd_r0cfg : (s.setCmd v).r0cfg = s.r0cfg := rfl
@[simp] theorem State.setCmd_curve : (s.setCmd v).curve = s.curve := rfl
@[simp] theorem State.setCmd_fault : (s.setCmd v).fault = s.fault := rfl
@[simp] theorem State.setCmd_valid : (s.setCmd v).valid = s.valid := rfl
@[simp] theorem State.setCmd_err : (s.setCmd v).err = s.err := rfl
@[simp] theorem State.setCmd_cause : (s.setCmd v).cause = s.cause := rfl
@[simp] theorem State.setCmd_rtdcode : (s.setCmd v).rtdcode = s.rtdcode := rfl
@[simp] theorem State.setCmd_hft : (s.setCmd v).hft = s.hft := rfl
@[simp] theorem State.setCmd_lft : (s.setCmd v).lft = s.lft := rfl
@[simp] theorem State.setCmd_fstat : (s.setCmd v).fstat = s.fstat := rfl
@[simp] theorem State.setCmd_cfgrd : (s.setCmd v).cfgrd = s.cfgrd := rfl
@[simp] theorem State.setCmd_fb : (s.setCmd v).fb = s.fb := rfl
@[simp] theorem State.setCmd_cs : (s.setCmd v).cs = s.cs := rfl
@[simp] theorem State.setCmd_seq : (s.setCmd v).seq = s.seq := rfl
@[simp] theorem State.setCmd_cmd : (s.setCmd v).cmd = v := rfl
@[simp] theorem State.setCmd_trace : (s.setCmd v).trace = s.trace := rfl
@[simp] theorem State.setCmd_params : (s.setCmd v).params = s.params := rfl
@[simp] theorem State.setCmd_program : (s.setCmd v).program = s.program := rfl
@[simp] theorem State.setCmd_reads : (s.setCmd v).reads = s.reads := rfl
@[simp] theorem State.setCmd_script : (s.setCmd v).script = s.script := rfl
@[simp] theorem State.setCmd_draws : (s.setCmd v).draws = s.draws := rfl

end

/-! ### pushEvent -/
section
variable (s : State) (v : BusEvent)

@[simp] theorem State.pushEvent_x0 : (s.pushEvent v).x0 = s.x0 := rfl
@[simp] theorem State.pushEvent_x1 : (s.pushEvent v).x1 = s.x1 := rfl
@[simp] theorem State.pushEvent_x2 : (s.pushEvent v).x2 = s.x2 := rfl
@[simp] theorem State.pushEvent_x3 : (s.pushEvent v).x3 = s.x3 := rfl
@[simp] theorem State.pushEvent_calOffset : (s.pushEvent v).calOffset = s.calOffset := rfl
@[simp] theorem State.pushEvent_calSlope : (s.pushEvent v).calSlope = s.calSlope := rfl
@[simp] theorem State.pushEvent_r0cfg : (s.pushEvent v).r0cfg = s.r0cfg := rfl
@[simp] theorem State.pushEvent_curve : (s.pushEvent v).curve = s.curve := rfl
@[simp] theorem State.pushEvent_fault : (s.pushEvent v).fault = s.fault := rfl
@[simp] theorem State.pushEvent_valid : (s.pushEvent v).valid = s.valid := rfl
@[simp] theorem State.pushEvent_err : (s.pushEvent v).err = s.err := rfl
@[simp] theorem State.pushEvent_cause : (s.pushEvent v).cause = s.cause := rfl
@[simp] theorem State.pushEvent_rtdcode : (s.pushEvent v).rtdcode = s.rtdcode := rfl
@[simp] theorem State.pushEvent_hft : (s.pushEvent v).hft = s.hft := rfl
@[simp] theorem State.pushEvent_lft : (s.pushEvent v).lft = s.lft := rfl
@[simp] theorem State.pushEvent_fstat : (s.pushEvent v).fstat = s.fstat := rfl
@[simp] theorem State.pushEvent_cfgrd : (s.pushEvent v).cfgrd = s.cfgrd := rfl
@[simp] theorem State.pushEvent_fb : (s.pushEvent v).fb = s.fb := rfl
@[simp] theorem State.pushEvent_cs : (s.pushEvent v).cs = s.cs := rfl
@[simp] theorem State.pushEvent_seq : (s.pushEvent v).seq = s.seq := rfl
@[simp] theorem State.pushEvent_cmd : (s.pushEvent v).cmd = s.cmd := rfl
@[simp] theorem State.pushEvent_trace : (s.pushEvent v).trace = s.trace ++ [v] := rfl
@[simp] theorem State.pushEvent_params : (s.pushEvent v).params = s.params := rfl
@[simp] theorem State.pushEvent_program : (s.pushEvent v).program = s.program := rfl
@[simp] theorem State.pushEvent_reads : (s.pushEvent v).reads = s.reads := rfl
@[simp] theorem State.pushEvent_script : (s.pushEvent v).script = s.script := rfl
@[simp] theorem State.pushEvent_draws : (s.pushEvent v).draws = s.draws := rfl

end

/-! ### setProgram -/
section
variable (s : State) (v : List Action)

@[simp] theorem State.setProgram_x0 : (s.setProgram v).x0 = s.x0 := rfl
@[simp] theorem State.setProgram_x1 : (s.setProgram v).x1 = s.x1 := rfl
@[simp] theorem State.setProgram_x2 : (s.setProgram v).x2 = s.x2 := rfl
@[simp] theorem State.setProgram_x3 : (s.setProgram v).x3 = s.x3 := rfl
@[simp] theorem State.setProgram_calOffset : (s.setProgram v).calOffset = s.calOffset := rfl
@[simp] theorem State.setProgram_calSlope : (s.setProgram v).calSlope = s.calSlope := rfl
@[simp] theorem State.setProgram_r0cfg : (s.setProgram v).r0cfg = s.r0cfg := rfl
@[simp] theorem State.setProgram_curve : (s.setProgram v).curve = s.curve := rfl
@[simp] theorem State.setProgram_fault : (s.setProgram v).fault = s.fault := rfl
@[simp] theorem State.setProgram_valid : (s.setProgram v).valid = s.valid := rfl
@[simp] theorem State.setProgram_err : (s.setProgram v).err = s.err := rfl
@[simp] theorem State.setProgram_cause : (s.setProgram v).cause = s.cause := rfl
@[simp] theorem State.setProgram_rtdcode : (s.setProgram v).rtdcode = s.rtdcode := rfl
@[simp] theorem State.setProgram_hft : (s.setProgram v).hft = s.hft := rfl
@[simp] theorem State.setProgram_lft : (s.setProgram v).lft = s.lft := rfl
@[simp] theorem State.setProgram_fstat : (s.setProgram v).fstat = s.fstat := rfl
@[simp] theorem State.setProgram_cfgrd : (s.setProgram v).cfgrd = s.cfgrd := rfl
@[simp] theorem State.setProgram_fb : (s.setProgram v).fb = s.fb := rfl
@[simp] theorem State.setProgram_cs : (s.setProgram v).cs = s.cs := rfl
@[simp] theorem State.setProgram_seq : (s.setProgram v).seq = s.seq := rfl
@[simp] theorem State.setProgram_cmd : (s.setProgram v).cmd = s.cmd := rfl
@[simp] theorem State.setProgram_trace : (s.setProgram v).trace = s.trace := rfl
@[simp] theorem State.setProgram_params : (s.setProgram v).params = s.params := rfl
@[simp] theorem State.setProgram_program : (s.setProgram v).program = v := rfl
@[simp] theorem State.setProgram_reads : (s.setProgram v).reads = s.reads := rfl
@[simp] theorem State.setProgram_script : (s.setProgram v).script = s.script := rfl
@[simp] theorem State.setProgram_draws : (s.setProgram v).draws = s.draws := rfl

end

/-! ### pushRead -/
section
variable (s : State) (r : HostReg) (v : BitVec 64)

@[simp] theorem State.pushRead_x0 : (s.pushRead r v).x0 = s.x0 := rfl
@[simp] theorem State.pushRead_x1 : (s.pushRead r v).x1 = s.x1 := rfl
@[simp] theorem State.pushRead_x2 : (s.pushRead r v).x2 = s.x2 := rfl
@[simp] theorem State.pushRead_x3 : (s.pushRead r v).x3 = s.x3 := rfl
@[simp] theorem State.pushRead_calOffset : (s.pushRead r v).calOffset = s.calOffset := rfl
@[simp] theorem State.pushRead_calSlope : (s.pushRead r v).calSlope = s.calSlope := rfl
@[simp] theorem State.pushRead_r0cfg : (s.pushRead r v).r0cfg = s.r0cfg := rfl
@[simp] theorem State.pushRead_curve : (s.pushRead r v).curve = s.curve := rfl
@[simp] theorem State.pushRead_fault : (s.pushRead r v).fault = s.fault := rfl
@[simp] theorem State.pushRead_valid : (s.pushRead r v).valid = s.valid := rfl
@[simp] theorem State.pushRead_err : (s.pushRead r v).err = s.err := rfl
@[simp] theorem State.pushRead_cause : (s.pushRead r v).cause = s.cause := rfl
@[simp] theorem State.pushRead_rtdcode : (s.pushRead r v).rtdcode = s.rtdcode := rfl
@[simp] theorem State.pushRead_hft : (s.pushRead r v).hft = s.hft := rfl
@[simp] theorem State.pushRead_lft : (s.pushRead r v).lft = s.lft := rfl
@[simp] theorem State.pushRead_fstat : (s.pushRead r v).fstat = s.fstat := rfl
@[simp] theorem State.pushRead_cfgrd : (s.pushRead r v).cfgrd = s.cfgrd := rfl
@[simp] theorem State.pushRead_fb : (s.pushRead r v).fb = s.fb := rfl
@[simp] theorem State.pushRead_cs : (s.pushRead r v).cs = s.cs := rfl
@[simp] theorem State.pushRead_seq : (s.pushRead r v).seq = s.seq := rfl
@[simp] theorem State.pushRead_cmd : (s.pushRead r v).cmd = s.cmd := rfl
@[simp] theorem State.pushRead_trace : (s.pushRead r v).trace = s.trace := rfl
@[simp] theorem State.pushRead_params : (s.pushRead r v).params = s.params := rfl
@[simp] theorem State.pushRead_program : (s.pushRead r v).program = s.program := rfl
@[simp] theorem State.pushRead_reads : (s.pushRead r v).reads = s.reads ++ [(r, v)] := rfl
@[simp] theorem State.pushRead_script : (s.pushRead r v).script = s.script := rfl
@[simp] theorem State.pushRead_draws : (s.pushRead r v).draws = s.draws := rfl

end

/-! ### setScript -/
section
variable (s : State) (v : List Reply)

@[simp] theorem State.setScript_x0 : (s.setScript v).x0 = s.x0 := rfl
@[simp] theorem State.setScript_x1 : (s.setScript v).x1 = s.x1 := rfl
@[simp] theorem State.setScript_x2 : (s.setScript v).x2 = s.x2 := rfl
@[simp] theorem State.setScript_x3 : (s.setScript v).x3 = s.x3 := rfl
@[simp] theorem State.setScript_calOffset : (s.setScript v).calOffset = s.calOffset := rfl
@[simp] theorem State.setScript_calSlope : (s.setScript v).calSlope = s.calSlope := rfl
@[simp] theorem State.setScript_r0cfg : (s.setScript v).r0cfg = s.r0cfg := rfl
@[simp] theorem State.setScript_curve : (s.setScript v).curve = s.curve := rfl
@[simp] theorem State.setScript_fault : (s.setScript v).fault = s.fault := rfl
@[simp] theorem State.setScript_valid : (s.setScript v).valid = s.valid := rfl
@[simp] theorem State.setScript_err : (s.setScript v).err = s.err := rfl
@[simp] theorem State.setScript_cause : (s.setScript v).cause = s.cause := rfl
@[simp] theorem State.setScript_rtdcode : (s.setScript v).rtdcode = s.rtdcode := rfl
@[simp] theorem State.setScript_hft : (s.setScript v).hft = s.hft := rfl
@[simp] theorem State.setScript_lft : (s.setScript v).lft = s.lft := rfl
@[simp] theorem State.setScript_fstat : (s.setScript v).fstat = s.fstat := rfl
@[simp] theorem State.setScript_cfgrd : (s.setScript v).cfgrd = s.cfgrd := rfl
@[simp] theorem State.setScript_fb : (s.setScript v).fb = s.fb := rfl
@[simp] theorem State.setScript_cs : (s.setScript v).cs = s.cs := rfl
@[simp] theorem State.setScript_seq : (s.setScript v).seq = s.seq := rfl
@[simp] theorem State.setScript_cmd : (s.setScript v).cmd = s.cmd := rfl
@[simp] theorem State.setScript_trace : (s.setScript v).trace = s.trace := rfl
@[simp] theorem State.setScript_params : (s.setScript v).params = s.params := rfl
@[simp] theorem State.setScript_program : (s.setScript v).program = s.program := rfl
@[simp] theorem State.setScript_reads : (s.setScript v).reads = s.reads := rfl
@[simp] theorem State.setScript_script : (s.setScript v).script = v := rfl
@[simp] theorem State.setScript_draws : (s.setScript v).draws = s.draws := rfl

end

/-! ### advance -/
section
variable (s : State) (n : Nat)

@[simp] theorem State.advance_x0 : (s.advance n).x0 = s.x0 := rfl
@[simp] theorem State.advance_x1 : (s.advance n).x1 = s.x1 := rfl
@[simp] theorem State.advance_x2 : (s.advance n).x2 = s.x2 := rfl
@[simp] theorem State.advance_x3 : (s.advance n).x3 = s.x3 := rfl
@[simp] theorem State.advance_calOffset : (s.advance n).calOffset = s.calOffset := rfl
@[simp] theorem State.advance_calSlope : (s.advance n).calSlope = s.calSlope := rfl
@[simp] theorem State.advance_r0cfg : (s.advance n).r0cfg = s.r0cfg := rfl
@[simp] theorem State.advance_curve : (s.advance n).curve = s.curve := rfl
@[simp] theorem State.advance_fault : (s.advance n).fault = s.fault := rfl
@[simp] theorem State.advance_valid : (s.advance n).valid = s.valid := rfl
@[simp] theorem State.advance_err : (s.advance n).err = s.err := rfl
@[simp] theorem State.advance_cause : (s.advance n).cause = s.cause := rfl
@[simp] theorem State.advance_rtdcode : (s.advance n).rtdcode = s.rtdcode := rfl
@[simp] theorem State.advance_hft : (s.advance n).hft = s.hft := rfl
@[simp] theorem State.advance_lft : (s.advance n).lft = s.lft := rfl
@[simp] theorem State.advance_fstat : (s.advance n).fstat = s.fstat := rfl
@[simp] theorem State.advance_cfgrd : (s.advance n).cfgrd = s.cfgrd := rfl
@[simp] theorem State.advance_fb : (s.advance n).fb = s.fb := rfl
@[simp] theorem State.advance_cs : (s.advance n).cs = s.cs := rfl
@[simp] theorem State.advance_seq : (s.advance n).seq = s.seq := rfl
@[simp] theorem State.advance_cmd : (s.advance n).cmd = s.cmd := rfl
@[simp] theorem State.advance_trace : (s.advance n).trace = s.trace := rfl
@[simp] theorem State.advance_params : (s.advance n).params = s.params := rfl
@[simp] theorem State.advance_program : (s.advance n).program = s.program := rfl
@[simp] theorem State.advance_reads : (s.advance n).reads = s.reads := rfl
@[simp] theorem State.advance_script : (s.advance n).script = s.script := rfl
@[simp] theorem State.advance_draws : (s.advance n).draws = s.draws + n := rfl

end

end Sys2Proof.Machine
end

