-- ==== Sys2Proof/Laws/Ops.lean ====
section
/-! SUPPORT. What each shared operation of Machine/Ops.lean does, said once: each as the state it gives,
field by field, and each transaction as the list of its outcomes. -/

namespace Sys2Proof.Machine

/-! ### Results and lost values -/

theorem writeResult_eq (v : F) (s : State) :
    writeResult v s = { s with x2 := settle s.draws v, draws := s.draws + 1 } := rfl

theorem loseResults_eq (s : State) :
    loseResults s =
      { s with
        x2 := Config.freeBits s.draws
        x3 := Config.freeBits (s.draws + 1)
        draws := s.draws + 2 } := rfl

theorem loseCfgrd_eq (s : State) :
    loseCfgrd s = { s with cfgrd := (Config.freeBits s.draws).setWidth 8, draws := s.draws + 1 } := rfl

/-- Losing the frame touches the frame buffer, the decoded registers and the draw counter. -/
theorem loseFrame_frame (s : State) :
    loseFrame s =
      { s with
        fb := (loseFrame s).fb
        rtdcode := (loseFrame s).rtdcode
        hft := (loseFrame s).hft
        lft := (loseFrame s).lft
        fstat := (loseFrame s).fstat
        draws := s.draws + 5 } := rfl

/-! ### Reports -/

theorem reportOk_eq (s : State) : reportOk s = { s with err := false, cause := 0#2 } := rfl
theorem reportFailure_eq (k : FailKind) (s : State) :
    reportFailure k s = { s with err := true, cause := causeCode k } := rfl
/-- Reporting touches `ERR` and `CAUSE` (rule R26). -/
theorem reportTransfer_frame (r : Transfer) (s : State) :
    reportTransfer r s = { s with err := (reportTransfer r s).err, cause := (reportTransfer r s).cause } := by
  cases r <;> rfl

/-- Step 3 of `ACQ` writes the four decoded registers (rule R162). -/
theorem decodeFrame_eq (s : State) :
    decodeFrame s =
      { s with
        rtdcode := Frame.rtdcode s.fb
        hft := Frame.hft s.fb
        lft := Frame.lft s.fb
        fstat := Frame.fstat s.fb } := rfl

/-! ### Transport primitives -/

theorem csAssert_eq (s : State) :
    csAssert s = { s with cs := .asserted, trace := s.trace ++ [.csAssert] } := rfl

theorem csRelease_eq (s : State) :
    csRelease s = { s with cs := .released, trace := s.trace ++ [.csRelease] } := rfl

theorem busTx_eq (bytes : List Byte) (s : State) :
    busTx bytes s =
      { s with
        script := s.script.tail
        draws := s.draws + 1
        trace := s.trace ++ [.tx bytes s.params.tmo (nextReply s).outcome] } := rfl

theorem busRx_eq (n : Nat) (s : State) :
    busRx n s =
      { s with
        script := s.script.tail
        draws := s.draws + 1 + n
        trace := s.trace ++ [.rx n s.params.tmo (rxResult n s)] } := rfl

theorem nextReply_cons {s : State} {r : Reply} {rest : List Reply} (h : s.script = r :: rest) :
    nextReply s = r := by simp [nextReply, h]

/-- The environment's answer depends on the pending script and the draws alone (rule R60). -/
theorem nextReply_congr {s t : State} (hs : t.script = s.script) (hd : t.draws = s.draws) :
    nextReply t = nextReply s := by simp only [nextReply, hs, hd]

/-- So does the result of a receive. -/
theorem rxResult_congr (n : Nat) {s t : State} (hs : t.script = s.script) (hd : t.draws = s.draws) :
    rxResult n t = rxResult n s := by
  simp only [rxResult, rxBytes, nextReply_congr hs hd, hd]

@[simp] theorem nextReply_csAssert (s : State) : nextReply (csAssert s) = nextReply s := nextReply_congr rfl rfl

/-- The receive after a transmit is answered by the next answer, whatever the transmit carried. -/
@[simp] theorem rxResult_busTx (n : Nat) (bytes : List Byte) (s : State) :
    rxResult n (busTx bytes s) = rxResult n (dropReply s) := rxResult_congr n rfl rfl

/-- A receive delivers exactly the bytes it was asked for (rule R58). -/
@[simp] theorem rxBytes_length (n : Nat) (s : State) : (rxBytes n s).length = n := by simp [rxBytes]

/-- A receive that succeeds delivers exactly `n` bytes. -/
theorem rxResult_ok_length {n : Nat} {s : State} {bytes : List Byte} (h : rxResult n s = .ok bytes) :
    bytes.length = n := by
  unfold rxResult at h
  split at h
  · injection h with h; rw [← h]; exact rxBytes_length n s
  · cases h

/-- The frame of seven bytes keeps each of them. -/
theorem frame_toBytes_ofBytes {l : List Byte} (h : l.length = 7) : Frame.toBytes (Frame.ofBytes l) = l := by
  obtain ⟨a, b, c, d, e, f, g, rfl⟩ : ∃ a b c d e f g, l = [a, b, c, d, e, f, g] := by
    match l, h with
    | [a, b, c, d, e, f, g], _ => exact ⟨a, b, c, d, e, f, g, rfl⟩
  rfl

/-! ### Transactions -/

/-- The three outcomes of `MemRead` (rule R52): the transmit fails and nothing is received; the receive
fails; both succeed. `CS` ends released in each. -/
theorem memRead_cases (addr : Byte) (n : Nat) (s : State) :
    (∃ k, (nextReply (csAssert s)).outcome = .fail k ∧
        memRead addr n s = (.fail k, csRelease (busTx [addr] (csAssert s)))) ∨
      ((nextReply (csAssert s)).outcome = .ok ∧
        memRead addr n s =
          (rxResult n (busTx [addr] (csAssert s)), csRelease (busRx n (busTx [addr] (csAssert s))))) := by
  cases h : (nextReply (csAssert s)).outcome with
  | ok => exact .inr ⟨rfl, by simp only [memRead, h]⟩
  | fail k => exact .inl ⟨k, rfl, by simp only [memRead, h]⟩

/-- `MemWrite` is one transmit in a chip-select scope of its own (rule R53). -/
theorem memWrite_eq (addr : Byte) (v : List Byte) (s : State) :
    memWrite addr v s =
      ((nextReply (csAssert s)).outcome, csRelease (busTx (addr :: v) (csAssert s))) := rfl

/-- A transaction touches the chip-select line, the trace and what the environment has left to answer. -/
theorem memRead_frame (addr : Byte) (n : Nat) (s : State) :
    (memRead addr n s).2 =
      { s with
        cs := .released
        trace := (memRead addr n s).2.trace
        script := (memRead addr n s).2.script
        draws := (memRead addr n s).2.draws } := by
  rcases memRead_cases addr n s with ⟨k, -, h⟩ | ⟨-, h⟩ <;>
    simp only [h, csRelease_eq, busRx_eq, busTx_eq, csAssert_eq]

/-- The same of `MemWrite`. -/
theorem memWrite_frame (addr : Byte) (v : List Byte) (s : State) :
    (memWrite addr v s).2 =
      { s with
        cs := .released
        trace := (memWrite addr v s).2.trace
        script := (memWrite addr v s).2.script
        draws := (memWrite addr v s).2.draws } := by
  simp only [memWrite_eq, csRelease_eq, busTx_eq, csAssert_eq]

section
variable (addr : Byte) (n : Nat) (v : List Byte) (s : State)

@[simp] theorem memRead_x0 : (memRead addr n s).2.x0 = s.x0 := by rw [memRead_frame]
@[simp] theorem memRead_x1 : (memRead addr n s).2.x1 = s.x1 := by rw [memRead_frame]
@[simp] theorem memRead_x2 : (memRead addr n s).2.x2 = s.x2 := by rw [memRead_frame]
@[simp] theorem memRead_x3 : (memRead addr n s).2.x3 = s.x3 := by rw [memRead_frame]
@[simp] theorem memRead_calOffset : (memRead addr n s).2.calOffset = s.calOffset := by rw [memRead_frame]
@[simp] theorem memRead_calSlope : (memRead addr n s).2.calSlope = s.calSlope := by rw [memRead_frame]
@[simp] theorem memRead_r0cfg : (memRead addr n s).2.r0cfg = s.r0cfg := by rw [memRead_frame]
@[simp] theorem memRead_curve : (memRead addr n s).2.curve = s.curve := by rw [memRead_frame]
@[simp] theorem memRead_fault : (memRead addr n s).2.fault = s.fault := by rw [memRead_frame]
@[simp] theorem memRead_valid : (memRead addr n s).2.valid = s.valid := by rw [memRead_frame]
@[simp] theorem memRead_err : (memRead addr n s).2.err = s.err := by rw [memRead_frame]
@[simp] theorem memRead_cause : (memRead addr n s).2.cause = s.cause := by rw [memRead_frame]
@[simp] theorem memRead_rtdcode : (memRead addr n s).2.rtdcode = s.rtdcode := by rw [memRead_frame]
@[simp] theorem memRead_hft : (memRead addr n s).2.hft = s.hft := by rw [memRead_frame]
@[simp] theorem memRead_lft : (memRead addr n s).2.lft = s.lft := by rw [memRead_frame]
@[simp] theorem memRead_fstat : (memRead addr n s).2.fstat = s.fstat := by rw [memRead_frame]
@[simp] theorem memRead_cfgrd : (memRead addr n s).2.cfgrd = s.cfgrd := by rw [memRead_frame]
@[simp] theorem memRead_fb : (memRead addr n s).2.fb = s.fb := by rw [memRead_frame]
@[simp] theorem memRead_seq : (memRead addr n s).2.seq = s.seq := by rw [memRead_frame]
@[simp] theorem memRead_cmd : (memRead addr n s).2.cmd = s.cmd := by rw [memRead_frame]
@[simp] theorem memRead_params : (memRead addr n s).2.params = s.params := by rw [memRead_frame]
@[simp] theorem memRead_program : (memRead addr n s).2.program = s.program := by rw [memRead_frame]
@[simp] theorem memRead_reads : (memRead addr n s).2.reads = s.reads := by rw [memRead_frame]
@[simp] theorem memRead_cs : (memRead addr n s).2.cs = .released := by rw [memRead_frame]
@[simp] theorem memWrite_x0 : (memWrite addr v s).2.x0 = s.x0 := by rw [memWrite_frame]
@[simp] theorem memWrite_x1 : (memWrite addr v s).2.x1 = s.x1 := by rw [memWrite_frame]
@[simp] theorem memWrite_x2 : (memWrite addr v s).2.x2 = s.x2 := by rw [memWrite_frame]
@[simp] theorem memWrite_x3 : (memWrite addr v s).2.x3 = s.x3 := by rw [memWrite_frame]
@[simp] theorem memWrite_calOffset : (memWrite addr v s).2.calOffset = s.calOffset := by rw [memWrite_frame]
@[simp] theorem memWrite_calSlope : (memWrite addr v s).2.calSlope = s.calSlope := by rw [memWrite_frame]
@[simp] theorem memWrite_r0cfg : (memWrite addr v s).2.r0cfg = s.r0cfg := by rw [memWrite_frame]
@[simp] theorem memWrite_curve : (memWrite addr v s).2.curve = s.curve := by rw [memWrite_frame]
@[simp] theorem memWrite_fault : (memWrite addr v s).2.fault = s.fault := by rw [memWrite_frame]
@[simp] theorem memWrite_valid : (memWrite addr v s).2.valid = s.valid := by rw [memWrite_frame]
@[simp] theorem memWrite_err : (memWrite addr v s).2.err = s.err := by rw [memWrite_frame]
@[simp] theorem memWrite_cause : (memWrite addr v s).2.cause = s.cause := by rw [memWrite_frame]
@[simp] theorem memWrite_rtdcode : (memWrite addr v s).2.rtdcode = s.rtdcode := by rw [memWrite_frame]
@[simp] theorem memWrite_hft : (memWrite addr v s).2.hft = s.hft := by rw [memWrite_frame]
@[simp] theorem memWrite_lft : (memWrite addr v s).2.lft = s.lft := by rw [memWrite_frame]
@[simp] theorem memWrite_fstat : (memWrite addr v s).2.fstat = s.fstat := by rw [memWrite_frame]
@[simp] theorem memWrite_cfgrd : (memWrite addr v s).2.cfgrd = s.cfgrd := by rw [memWrite_frame]
@[simp] theorem memWrite_fb : (memWrite addr v s).2.fb = s.fb := by rw [memWrite_frame]
@[simp] theorem memWrite_seq : (memWrite addr v s).2.seq = s.seq := by rw [memWrite_frame]
@[simp] theorem memWrite_cmd : (memWrite addr v s).2.cmd = s.cmd := by rw [memWrite_frame]
@[simp] theorem memWrite_params : (memWrite addr v s).2.params = s.params := by rw [memWrite_frame]
@[simp] theorem memWrite_program : (memWrite addr v s).2.program = s.program := by rw [memWrite_frame]
@[simp] theorem memWrite_reads : (memWrite addr v s).2.reads = s.reads := by rw [memWrite_frame]
@[simp] theorem memWrite_cs : (memWrite addr v s).2.cs = .released := by rw [memWrite_frame]

end

/-! ### Exceptions -/

/-- What raising either exception leaves (rule R167): everything but the report, the lost registers and
the phase is as it was. -/
theorem abortAcquisition_eq (k : FailKind) (s : State) :
    abortAcquisition k s =
      { s with
        err := true
        cause := causeCode k
        valid := false
        seq := .idle
        x2 := Config.freeBits s.draws
        x3 := Config.freeBits (s.draws + 1)
        draws := s.draws + 2 } := rfl

theorem raiseRecoveryTransport_eq (k : FailKind) (s : State) :
    raiseRecoveryTransport k s = abortAcquisition k s := rfl

theorem raiseTransport_eq (k : FailKind) (s : State) :
    raiseTransport k s = abortAcquisition k (loseFrame s) := rfl

theorem causeCode_ne_zero (k : FailKind) : causeCode k ≠ 0#2 := by cases k <;> decide

theorem causeCode_ne_three (k : FailKind) : causeCode k ≠ 3#2 := by cases k <;> decide

/-! ### Starting an operation -/

/-- An operation runs in `IDLE`, with its effect, and is refused in every other phase. -/
theorem operate_idle {f : State → State} {s : State} (h : s.seq = .idle) : operate f s = .next (f s) := by
  simp [operate, h]

theorem operate_busy {f : State → State} {s : State} (h : s.seq ≠ .idle) :
    operate f s = .refused .hostBlocked := by simp [operate, h]

theorem operate_next {f : State → State} {s t : State} (h : operate f s = .next t) :
    s.seq = .idle ∧ t = f s := by
  unfold operate at h
  split at h
  · next hs => injection h with h; exact ⟨hs, h.symm⟩
  · cases h

/-! ### Delivery -/

/-- The bound conversion depends on `K`, the binding and the calibration only (rules R151, R152). -/
theorem boundTemp_congr {s t : State} (r : F) (hp : t.params = s.params) (hc : t.curve = s.curve)
    (h0 : t.r0cfg = s.r0cfg) (hs : t.calSlope = s.calSlope) (ho : t.calOffset = s.calOffset) :
    boundTemp t r = boundTemp s r := by simp only [boundTemp, boundCurve, hp, hc, h0, hs, ho]

/-- What the last phase of `ACQ` writes (rules R164 to R166). -/
theorem deliver_eq (s : State) :
    deliver s =
      { s with
        x3 := settle s.draws (ohmsOfCode s.rtdcode s.params.rRef)
        x2 := settle (s.draws + 1) (boundTemp s (settle s.draws (ohmsOfCode s.rtdcode s.params.rRef)))
        valid := !faulted s
        err := false
        cause := 0#2
        seq := .idle
        draws := s.draws + 2 } := rfl

end Sys2Proof.Machine
end

