-- ==== Sys2Proof/Laws/Fields.lean ====
section
/-! SUPPORT. One lemma per field per shared operation: what it writes the field with, or that it leaves it alone.
Later proofs cite these instead of unfolding an operation. -/

namespace Sys2Proof.Machine

theorem dropReply_eq (s : State) : dropReply s = { s with script := s.script.tail, draws := s.draws + 1 } := rfl

/-- What a failed data read leaves alone (rule R167 (a)). -/
theorem raiseTransport_frame (k : FailKind) (s : State) :
    raiseTransport k s =
      { s with
        fb := (raiseTransport k s).fb
        rtdcode := (raiseTransport k s).rtdcode
        hft := (raiseTransport k s).hft
        lft := (raiseTransport k s).lft
        fstat := (raiseTransport k s).fstat
        x2 := (raiseTransport k s).x2
        x3 := (raiseTransport k s).x3
        valid := false
        err := true
        cause := causeCode k
        seq := .idle
        draws := (raiseTransport k s).draws } := by
  rw [raiseTransport_eq, abortAcquisition_eq, loseFrame_frame]

/-- What a failed recovery write leaves alone (rule R167 (b)). -/
theorem raiseRecoveryTransport_frame (k : FailKind) (s : State) :
    raiseRecoveryTransport k s =
      { s with
        x2 := (raiseRecoveryTransport k s).x2
        x3 := (raiseRecoveryTransport k s).x3
        valid := false
        err := true
        cause := causeCode k
        seq := .idle
        draws := s.draws + 2 } := by
  rw [raiseRecoveryTransport_eq, abortAcquisition_eq]

/-! ### csAssert -/
section
variable (s : State)

@[simp] theorem csAssert_x0 : (csAssert s).x0 = s.x0 := by rw [csAssert_eq]
@[simp] theorem csAssert_x1 : (csAssert s).x1 = s.x1 := by rw [csAssert_eq]
@[simp] theorem csAssert_x2 : (csAssert s).x2 = s.x2 := by rw [csAssert_eq]
@[simp] theorem csAssert_x3 : (csAssert s).x3 = s.x3 := by rw [csAssert_eq]
@[simp] theorem csAssert_calOffset : (csAssert s).calOffset = s.calOffset := by rw [csAssert_eq]
@[simp] theorem csAssert_calSlope : (csAssert s).calSlope = s.calSlope := by rw [csAssert_eq]
@[simp] theorem csAssert_r0cfg : (csAssert s).r0cfg = s.r0cfg := by rw [csAssert_eq]
@[simp] theorem csAssert_curve : (csAssert s).curve = s.curve := by rw [csAssert_eq]
@[simp] theorem csAssert_fault : (csAssert s).fault = s.fault := by rw [csAssert_eq]
@[simp] theorem csAssert_valid : (csAssert s).valid = s.valid := by rw [csAssert_eq]
@[simp] theorem csAssert_err : (csAssert s).err = s.err := by rw [csAssert_eq]
@[simp] theorem csAssert_cause : (csAssert s).cause = s.cause := by rw [csAssert_eq]
@[simp] theorem csAssert_rtdcode : (csAssert s).rtdcode = s.rtdcode := by rw [csAssert_eq]
@[simp] theorem csAssert_hft : (csAssert s).hft = s.hft := by rw [csAssert_eq]
@[simp] theorem csAssert_lft : (csAssert s).lft = s.lft := by rw [csAssert_eq]
@[simp] theorem csAssert_fstat : (csAssert s).fstat = s.fstat := by rw [csAssert_eq]
@[simp] theorem csAssert_cfgrd : (csAssert s).cfgrd = s.cfgrd := by rw [csAssert_eq]
@[simp] theorem csAssert_fb : (csAssert s).fb = s.fb := by rw [csAssert_eq]
@[simp] theorem csAssert_cs : (csAssert s).cs = .asserted := by rw [csAssert_eq]
@[simp] theorem csAssert_seq : (csAssert s).seq = s.seq := by rw [csAssert_eq]
@[simp] theorem csAssert_cmd : (csAssert s).cmd = s.cmd := by rw [csAssert_eq]
@[simp] theorem csAssert_trace : (csAssert s).trace = s.trace ++ [.csAssert] := by rw [csAssert_eq]
@[simp] theorem csAssert_params : (csAssert s).params = s.params := by rw [csAssert_eq]
@[simp] theorem csAssert_program : (csAssert s).program = s.program := by rw [csAssert_eq]
@[simp] theorem csAssert_reads : (csAssert s).reads = s.reads := by rw [csAssert_eq]
@[simp] theorem csAssert_script : (csAssert s).script = s.script := by rw [csAssert_eq]
@[simp] theorem csAssert_draws : (csAssert s).draws = s.draws := by rw [csAssert_eq]

end

/-! ### csRelease -/
section
variable (s : State)

@[simp] theorem csRelease_x0 : (csRelease s).x0 = s.x0 := by rw [csRelease_eq]
@[simp] theorem csRelease_x1 : (csRelease s).x1 = s.x1 := by rw [csRelease_eq]
@[simp] theorem csRelease_x2 : (csRelease s).x2 = s.x2 := by rw [csRelease_eq]
@[simp] theorem csRelease_x3 : (csRelease s).x3 = s.x3 := by rw [csRelease_eq]
@[simp] theorem csRelease_calOffset : (csRelease s).calOffset = s.calOffset := by rw [csRelease_eq]
@[simp] theorem csRelease_calSlope : (csRelease s).calSlope = s.calSlope := by rw [csRelease_eq]
@[simp] theorem csRelease_r0cfg : (csRelease s).r0cfg = s.r0cfg := by rw [csRelease_eq]
@[simp] theorem csRelease_curve : (csRelease s).curve = s.curve := by rw [csRelease_eq]
@[simp] theorem csRelease_fault : (csRelease s).fault = s.fault := by rw [csRelease_eq]
@[simp] theorem csRelease_valid : (csRelease s).valid = s.valid := by rw [csRelease_eq]
@[simp] theorem csRelease_err : (csRelease s).err = s.err := by rw [csRelease_eq]
@[simp] theorem csRelease_cause : (csRelease s).cause = s.cause := by rw [csRelease_eq]
@[simp] theorem csRelease_rtdcode : (csRelease s).rtdcode = s.rtdcode := by rw [csRelease_eq]
@[simp] theorem csRelease_hft : (csRelease s).hft = s.hft := by rw [csRelease_eq]
@[simp] theorem csRelease_lft : (csRelease s).lft = s.lft := by rw [csRelease_eq]
@[simp] theorem csRelease_fstat : (csRelease s).fstat = s.fstat := by rw [csRelease_eq]
@[simp] theorem csRelease_cfgrd : (csRelease s).cfgrd = s.cfgrd := by rw [csRelease_eq]
@[simp] theorem csRelease_fb : (csRelease s).fb = s.fb := by rw [csRelease_eq]
@[simp] theorem csRelease_cs : (csRelease s).cs = .released := by rw [csRelease_eq]
@[simp] theorem csRelease_seq : (csRelease s).seq = s.seq := by rw [csRelease_eq]
@[simp] theorem csRelease_cmd : (csRelease s).cmd = s.cmd := by rw [csRelease_eq]
@[simp] theorem csRelease_trace : (csRelease s).trace = s.trace ++ [.csRelease] := by rw [csRelease_eq]
@[simp] theorem csRelease_params : (csRelease s).params = s.params := by rw [csRelease_eq]
@[simp] theorem csRelease_program : (csRelease s).program = s.program := by rw [csRelease_eq]
@[simp] theorem csRelease_reads : (csRelease s).reads = s.reads := by rw [csRelease_eq]
@[simp] theorem csRelease_script : (csRelease s).script = s.script := by rw [csRelease_eq]
@[simp] theorem csRelease_draws : (csRelease s).draws = s.draws := by rw [csRelease_eq]

end

/-! ### dropReply -/
section
variable (s : State)

@[simp] theorem dropReply_x0 : (dropReply s).x0 = s.x0 := by rw [dropReply_eq]
@[simp] theorem dropReply_x1 : (dropReply s).x1 = s.x1 := by rw [dropReply_eq]
@[simp] theorem dropReply_x2 : (dropReply s).x2 = s.x2 := by rw [dropReply_eq]
@[simp] theorem dropReply_x3 : (dropReply s).x3 = s.x3 := by rw [dropReply_eq]
@[simp] theorem dropReply_calOffset : (dropReply s).calOffset = s.calOffset := by rw [dropReply_eq]
@[simp] theorem dropReply_calSlope : (dropReply s).calSlope = s.calSlope := by rw [dropReply_eq]
@[simp] theorem dropReply_r0cfg : (dropReply s).r0cfg = s.r0cfg := by rw [dropReply_eq]
@[simp] theorem dropReply_curve : (dropReply s).curve = s.curve := by rw [dropReply_eq]
@[simp] theorem dropReply_fault : (dropReply s).fault = s.fault := by rw [dropReply_eq]
@[simp] theorem dropReply_valid : (dropReply s).valid = s.valid := by rw [dropReply_eq]
@[simp] theorem dropReply_err : (dropReply s).err = s.err := by rw [dropReply_eq]
@[simp] theorem dropReply_cause : (dropReply s).cause = s.cause := by rw [dropReply_eq]
@[simp] theorem dropReply_rtdcode : (dropReply s).rtdcode = s.rtdcode := by rw [dropReply_eq]
@[simp] theorem dropReply_hft : (dropReply s).hft = s.hft := by rw [dropReply_eq]
@[simp] theorem dropReply_lft : (dropReply s).lft = s.lft := by rw [dropReply_eq]
@[simp] theorem dropReply_fstat : (dropReply s).fstat = s.fstat := by rw [dropReply_eq]
@[simp] theorem dropReply_cfgrd : (dropReply s).cfgrd = s.cfgrd := by rw [dropReply_eq]
@[simp] theorem dropReply_fb : (dropReply s).fb = s.fb := by rw [dropReply_eq]
@[simp] theorem dropReply_cs : (dropReply s).cs = s.cs := by rw [dropReply_eq]
@[simp] theorem dropReply_seq : (dropReply s).seq = s.seq := by rw [dropReply_eq]
@[simp] theorem dropReply_cmd : (dropReply s).cmd = s.cmd := by rw [dropReply_eq]
@[simp] theorem dropReply_trace : (dropReply s).trace = s.trace := by rw [dropReply_eq]
@[simp] theorem dropReply_params : (dropReply s).params = s.params := by rw [dropReply_eq]
@[simp] theorem dropReply_program : (dropReply s).program = s.program := by rw [dropReply_eq]
@[simp] theorem dropReply_reads : (dropReply s).reads = s.reads := by rw [dropReply_eq]
@[simp] theorem dropReply_script : (dropReply s).script = s.script.tail := by rw [dropReply_eq]
@[simp] theorem dropReply_draws : (dropReply s).draws = s.draws + 1 := by rw [dropReply_eq]

end

/-! ### busTx -/
section
variable (bytes : List Byte) (s : State)

@[simp] theorem busTx_x0 : (busTx bytes s).x0 = s.x0 := by rw [busTx_eq]
@[simp] theorem busTx_x1 : (busTx bytes s).x1 = s.x1 := by rw [busTx_eq]
@[simp] theorem busTx_x2 : (busTx bytes s).x2 = s.x2 := by rw [busTx_eq]
@[simp] theorem busTx_x3 : (busTx bytes s).x3 = s.x3 := by rw [busTx_eq]
@[simp] theorem busTx_calOffset : (busTx bytes s).calOffset = s.calOffset := by rw [busTx_eq]
@[simp] theorem busTx_calSlope : (busTx bytes s).calSlope = s.calSlope := by rw [busTx_eq]
@[simp] theorem busTx_r0cfg : (busTx bytes s).r0cfg = s.r0cfg := by rw [busTx_eq]
@[simp] theorem busTx_curve : (busTx bytes s).curve = s.curve := by rw [busTx_eq]
@[simp] theorem busTx_fault : (busTx bytes s).fault = s.fault := by rw [busTx_eq]
@[simp] theorem busTx_valid : (busTx bytes s).valid = s.valid := by rw [busTx_eq]
@[simp] theorem busTx_err : (busTx bytes s).err = s.err := by rw [busTx_eq]
@[simp] theorem busTx_cause : (busTx bytes s).cause = s.cause := by rw [busTx_eq]
@[simp] theorem busTx_rtdcode : (busTx bytes s).rtdcode = s.rtdcode := by rw [busTx_eq]
@[simp] theorem busTx_hft : (busTx bytes s).hft = s.hft := by rw [busTx_eq]
@[simp] theorem busTx_lft : (busTx bytes s).lft = s.lft := by rw [busTx_eq]
@[simp] theorem busTx_fstat : (busTx bytes s).fstat = s.fstat := by rw [busTx_eq]
@[simp] theorem busTx_cfgrd : (busTx bytes s).cfgrd = s.cfgrd := by rw [busTx_eq]
@[simp] theorem busTx_fb : (busTx bytes s).fb = s.fb := by rw [busTx_eq]
@[simp] theorem busTx_cs : (busTx bytes s).cs = s.cs := by rw [busTx_eq]
@[simp] theorem busTx_seq : (busTx bytes s).seq = s.seq := by rw [busTx_eq]
@[simp] theorem busTx_cmd : (busTx bytes s).cmd = s.cmd := by rw [busTx_eq]
@[simp] theorem busTx_trace : (busTx bytes s).trace = s.trace ++ [.tx bytes s.params.tmo (nextReply s).outcome] := by rw [busTx_eq]
@[simp] theorem busTx_params : (busTx bytes s).params = s.params := by rw [busTx_eq]
@[simp] theorem busTx_program : (busTx bytes s).program = s.program := by rw [busTx_eq]
@[simp] theorem busTx_reads : (busTx bytes s).reads = s.reads := by rw [busTx_eq]
@[simp] theorem busTx_script : (busTx bytes s).script = s.script.tail := by rw [busTx_eq]
@[simp] theorem busTx_draws : (busTx bytes s).draws = s.draws + 1 := by rw [busTx_eq]

end

/-! ### busRx -/
section
variable (n : Nat) (s : State)

@[simp] theorem busRx_x0 : (busRx n s).x0 = s.x0 := by rw [busRx_eq]
@[simp] theorem busRx_x1 : (busRx n s).x1 = s.x1 := by rw [busRx_eq]
@[simp] theorem busRx_x2 : (busRx n s).x2 = s.x2 := by rw [busRx_eq]
@[simp] theorem busRx_x3 : (busRx n s).x3 = s.x3 := by rw [busRx_eq]
@[simp] theorem busRx_calOffset : (busRx n s).calOffset = s.calOffset := by rw [busRx_eq]
@[simp] theorem busRx_calSlope : (busRx n s).calSlope = s.calSlope := by rw [busRx_eq]
@[simp] theorem busRx_r0cfg : (busRx n s).r0cfg = s.r0cfg := by rw [busRx_eq]
@[simp] theorem busRx_curve : (busRx n s).curve = s.curve := by rw [busRx_eq]
@[simp] theorem busRx_fault : (busRx n s).fault = s.fault := by rw [busRx_eq]
@[simp] theorem busRx_valid : (busRx n s).valid = s.valid := by rw [busRx_eq]
@[simp] theorem busRx_err : (busRx n s).err = s.err := by rw [busRx_eq]
@[simp] theorem busRx_cause : (busRx n s).cause = s.cause := by rw [busRx_eq]
@[simp] theorem busRx_rtdcode : (busRx n s).rtdcode = s.rtdcode := by rw [busRx_eq]
@[simp] theorem busRx_hft : (busRx n s).hft = s.hft := by rw [busRx_eq]
@[simp] theorem busRx_lft : (busRx n s).lft = s.lft := by rw [busRx_eq]
@[simp] theorem busRx_fstat : (busRx n s).fstat = s.fstat := by rw [busRx_eq]
@[simp] theorem busRx_cfgrd : (busRx n s).cfgrd = s.cfgrd := by rw [busRx_eq]
@[simp] theorem busRx_fb : (busRx n s).fb = s.fb := by rw [busRx_eq]
@[simp] theorem busRx_cs : (busRx n s).cs = s.cs := by rw [busRx_eq]
@[simp] theorem busRx_seq : (busRx n s).seq = s.seq := by rw [busRx_eq]
@[simp] theorem busRx_cmd : (busRx n s).cmd = s.cmd := by rw [busRx_eq]
@[simp] theorem busRx_trace : (busRx n s).trace = s.trace ++ [.rx n s.params.tmo (rxResult n s)] := by rw [busRx_eq]
@[simp] theorem busRx_params : (busRx n s).params = s.params := by rw [busRx_eq]
@[simp] theorem busRx_program : (busRx n s).program = s.program := by rw [busRx_eq]
@[simp] theorem busRx_reads : (busRx n s).reads = s.reads := by rw [busRx_eq]
@[simp] theorem busRx_script : (busRx n s).script = s.script.tail := by rw [busRx_eq]
@[simp] theorem busRx_draws : (busRx n s).draws = s.draws + 1 + n := by rw [busRx_eq]

end

/-! ### writeResult -/
section
variable (v : F) (s : State)

@[simp] theorem writeResult_x0 : (writeResult v s).x0 = s.x0 := by rw [writeResult_eq]
@[simp] theorem writeResult_x1 : (writeResult v s).x1 = s.x1 := by rw [writeResult_eq]
@[simp] theorem writeResult_x2 : (writeResult v s).x2 = settle s.draws v := by rw [writeResult_eq]
@[simp] theorem writeResult_x3 : (writeResult v s).x3 = s.x3 := by rw [writeResult_eq]
@[simp] theorem writeResult_calOffset : (writeResult v s).calOffset = s.calOffset := by rw [writeResult_eq]
@[simp] theorem writeResult_calSlope : (writeResult v s).calSlope = s.calSlope := by rw [writeResult_eq]
@[simp] theorem writeResult_r0cfg : (writeResult v s).r0cfg = s.r0cfg := by rw [writeResult_eq]
@[simp] theorem writeResult_curve : (writeResult v s).curve = s.curve := by rw [writeResult_eq]
@[simp] theorem writeResult_fault : (writeResult v s).fault = s.fault := by rw [writeResult_eq]
@[simp] theorem writeResult_valid : (writeResult v s).valid = s.valid := by rw [writeResult_eq]
@[simp] theorem writeResult_err : (writeResult v s).err = s.err := by rw [writeResult_eq]
@[simp] theorem writeResult_cause : (writeResult v s).cause = s.cause := by rw [writeResult_eq]
@[simp] theorem writeResult_rtdcode : (writeResult v s).rtdcode = s.rtdcode := by rw [writeResult_eq]
@[simp] theorem writeResult_hft : (writeResult v s).hft = s.hft := by rw [writeResult_eq]
@[simp] theorem writeResult_lft : (writeResult v s).lft = s.lft := by rw [writeResult_eq]
@[simp] theorem writeResult_fstat : (writeResult v s).fstat = s.fstat := by rw [writeResult_eq]
@[simp] theorem writeResult_cfgrd : (writeResult v s).cfgrd = s.cfgrd := by rw [writeResult_eq]
@[simp] theorem writeResult_fb : (writeResult v s).fb = s.fb := by rw [writeResult_eq]
@[simp] theorem writeResult_cs : (writeResult v s).cs = s.cs := by rw [writeResult_eq]
@[simp] theorem writeResult_seq : (writeResult v s).seq = s.seq := by rw [writeResult_eq]
@[simp] theorem writeResult_cmd : (writeResult v s).cmd = s.cmd := by rw [writeResult_eq]
@[simp] theorem writeResult_trace : (writeResult v s).trace = s.trace := by rw [writeResult_eq]
@[simp] theorem writeResult_params : (writeResult v s).params = s.params := by rw [writeResult_eq]
@[simp] theorem writeResult_program : (writeResult v s).program = s.program := by rw [writeResult_eq]
@[simp] theorem writeResult_reads : (writeResult v s).reads = s.reads := by rw [writeResult_eq]
@[simp] theorem writeResult_script : (writeResult v s).script = s.script := by rw [writeResult_eq]
@[simp] theorem writeResult_draws : (writeResult v s).draws = s.draws + 1 := by rw [writeResult_eq]

end

/-! ### loseResults -/
section
variable (s : State)

@[simp] theorem loseResults_x0 : (loseResults s).x0 = s.x0 := by rw [loseResults_eq]
@[simp] theorem loseResults_x1 : (loseResults s).x1 = s.x1 := by rw [loseResults_eq]
@[simp] theorem loseResults_calOffset : (loseResults s).calOffset = s.calOffset := by rw [loseResults_eq]
@[simp] theorem loseResults_calSlope : (loseResults s).calSlope = s.calSlope := by rw [loseResults_eq]
@[simp] theorem loseResults_r0cfg : (loseResults s).r0cfg = s.r0cfg := by rw [loseResults_eq]
@[simp] theorem loseResults_curve : (loseResults s).curve = s.curve := by rw [loseResults_eq]
@[simp] theorem loseResults_fault : (loseResults s).fault = s.fault := by rw [loseResults_eq]
@[simp] theorem loseResults_valid : (loseResults s).valid = s.valid := by rw [loseResults_eq]
@[simp] theorem loseResults_err : (loseResults s).err = s.err := by rw [loseResults_eq]
@[simp] theorem loseResults_cause : (loseResults s).cause = s.cause := by rw [loseResults_eq]
@[simp] theorem loseResults_rtdcode : (loseResults s).rtdcode = s.rtdcode := by rw [loseResults_eq]
@[simp] theorem loseResults_hft : (loseResults s).hft = s.hft := by rw [loseResults_eq]
@[simp] theorem loseResults_lft : (loseResults s).lft = s.lft := by rw [loseResults_eq]
@[simp] theorem loseResults_fstat : (loseResults s).fstat = s.fstat := by rw [loseResults_eq]
@[simp] theorem loseResults_cfgrd : (loseResults s).cfgrd = s.cfgrd := by rw [loseResults_eq]
@[simp] theorem loseResults_fb : (loseResults s).fb = s.fb := by rw [loseResults_eq]
@[simp] theorem loseResults_cs : (loseResults s).cs = s.cs := by rw [loseResults_eq]
@[simp] theorem loseResults_seq : (loseResults s).seq = s.seq := by rw [loseResults_eq]
@[simp] theorem loseResults_cmd : (loseResults s).cmd = s.cmd := by rw [loseResults_eq]
@[simp] theorem loseResults_trace : (loseResults s).trace = s.trace := by rw [loseResults_eq]
@[simp] theorem loseResults_params : (loseResults s).params = s.params := by rw [loseResults_eq]
@[simp] theorem loseResults_program : (loseResults s).program = s.program := by rw [loseResults_eq]
@[simp] theorem loseResults_reads : (loseResults s).reads = s.reads := by rw [loseResults_eq]
@[simp] theorem loseResults_script : (loseResults s).script = s.script := by rw [loseResults_eq]
@[simp] theorem loseResults_draws : (loseResults s).draws = s.draws + 2 := by rw [loseResults_eq]

end

/-! ### loseFrame -/
section
variable (s : State)

@[simp] theorem loseFrame_x0 : (loseFrame s).x0 = s.x0 := by rw [loseFrame_frame]
@[simp] theorem loseFrame_x1 : (loseFrame s).x1 = s.x1 := by rw [loseFrame_frame]
@[simp] theorem loseFrame_x2 : (loseFrame s).x2 = s.x2 := by rw [loseFrame_frame]
@[simp] theorem loseFrame_x3 : (loseFrame s).x3 = s.x3 := by rw [loseFrame_frame]
@[simp] theorem loseFrame_calOffset : (loseFrame s).calOffset = s.calOffset := by rw [loseFrame_frame]
@[simp] theorem loseFrame_calSlope : (loseFrame s).calSlope = s.calSlope := by rw [loseFrame_frame]
@[simp] theorem loseFrame_r0cfg : (loseFrame s).r0cfg = s.r0cfg := by rw [loseFrame_frame]
@[simp] theorem loseFrame_curve : (loseFrame s).curve = s.curve := by rw [loseFrame_frame]
@[simp] theorem loseFrame_fault : (loseFrame s).fault = s.fault := by rw [loseFrame_frame]
@[simp] theorem loseFrame_valid : (loseFrame s).valid = s.valid := by rw [loseFrame_frame]
@[simp] theorem loseFrame_err : (loseFrame s).err = s.err := by rw [loseFrame_frame]
@[simp] theorem loseFrame_cause : (loseFrame s).cause = s.cause := by rw [loseFrame_frame]
@[simp] theorem loseFrame_cfgrd : (loseFrame s).cfgrd = s.cfgrd := by rw [loseFrame_frame]
@[simp] theorem loseFrame_cs : (loseFrame s).cs = s.cs := by rw [loseFrame_frame]
@[simp] theorem loseFrame_seq : (loseFrame s).seq = s.seq := by rw [loseFrame_frame]
@[simp] theorem loseFrame_cmd : (loseFrame s).cmd = s.cmd := by rw [loseFrame_frame]
@[simp] theorem loseFrame_trace : (loseFrame s).trace = s.trace := by rw [loseFrame_frame]
@[simp] theorem loseFrame_params : (loseFrame s).params = s.params := by rw [loseFrame_frame]
@[simp] theorem loseFrame_program : (loseFrame s).program = s.program := by rw [loseFrame_frame]
@[simp] theorem loseFrame_reads : (loseFrame s).reads = s.reads := by rw [loseFrame_frame]
@[simp] theorem loseFrame_script : (loseFrame s).script = s.script := by rw [loseFrame_frame]
@[simp] theorem loseFrame_draws : (loseFrame s).draws = s.draws + 5 := by rw [loseFrame_frame]

end

/-! ### loseCfgrd -/
section
variable (s : State)

@[simp] theorem loseCfgrd_x0 : (loseCfgrd s).x0 = s.x0 := by rw [loseCfgrd_eq]
@[simp] theorem loseCfgrd_x1 : (loseCfgrd s).x1 = s.x1 := by rw [loseCfgrd_eq]
@[simp] theorem loseCfgrd_x2 : (loseCfgrd s).x2 = s.x2 := by rw [loseCfgrd_eq]
@[simp] theorem loseCfgrd_x3 : (loseCfgrd s).x3 = s.x3 := by rw [loseCfgrd_eq]
@[simp] theorem loseCfgrd_calOffset : (loseCfgrd s).calOffset = s.calOffset := by rw [loseCfgrd_eq]
@[simp] theorem loseCfgrd_calSlope : (loseCfgrd s).calSlope = s.calSlope := by rw [loseCfgrd_eq]
@[simp] theorem loseCfgrd_r0cfg : (loseCfgrd s).r0cfg = s.r0cfg := by rw [loseCfgrd_eq]
@[simp] theorem loseCfgrd_curve : (loseCfgrd s).curve = s.curve := by rw [loseCfgrd_eq]
@[simp] theorem loseCfgrd_fault : (loseCfgrd s).fault = s.fault := by rw [loseCfgrd_eq]
@[simp] theorem loseCfgrd_valid : (loseCfgrd s).valid = s.valid := by rw [loseCfgrd_eq]
@[simp] theorem loseCfgrd_err : (loseCfgrd s).err = s.err := by rw [loseCfgrd_eq]
@[simp] theorem loseCfgrd_cause : (loseCfgrd s).cause = s.cause := by rw [loseCfgrd_eq]
@[simp] theorem loseCfgrd_rtdcode : (loseCfgrd s).rtdcode = s.rtdcode := by rw [loseCfgrd_eq]
@[simp] theorem loseCfgrd_hft : (loseCfgrd s).hft = s.hft := by rw [loseCfgrd_eq]
@[simp] theorem loseCfgrd_lft : (loseCfgrd s).lft = s.lft := by rw [loseCfgrd_eq]
@[simp] theorem loseCfgrd_fstat : (loseCfgrd s).fstat = s.fstat := by rw [loseCfgrd_eq]
@[simp] theorem loseCfgrd_fb : (loseCfgrd s).fb = s.fb := by rw [loseCfgrd_eq]
@[simp] theorem loseCfgrd_cs : (loseCfgrd s).cs = s.cs := by rw [loseCfgrd_eq]
@[simp] theorem loseCfgrd_seq : (loseCfgrd s).seq = s.seq := by rw [loseCfgrd_eq]
@[simp] theorem loseCfgrd_cmd : (loseCfgrd s).cmd = s.cmd := by rw [loseCfgrd_eq]
@[simp] theorem loseCfgrd_trace : (loseCfgrd s).trace = s.trace := by rw [loseCfgrd_eq]
@[simp] theorem loseCfgrd_params : (loseCfgrd s).params = s.params := by rw [loseCfgrd_eq]
@[simp] theorem loseCfgrd_program : (loseCfgrd s).program = s.program := by rw [loseCfgrd_eq]
@[simp] theorem loseCfgrd_reads : (loseCfgrd s).reads = s.reads := by rw [loseCfgrd_eq]
@[simp] theorem loseCfgrd_script : (loseCfgrd s).script = s.script := by rw [loseCfgrd_eq]
@[simp] theorem loseCfgrd_draws : (loseCfgrd s).draws = s.draws + 1 := by rw [loseCfgrd_eq]

end

/-! ### reportOk -/
section
variable (s : State)

@[simp] theorem reportOk_x0 : (reportOk s).x0 = s.x0 := by rw [reportOk_eq]
@[simp] theorem reportOk_x1 : (reportOk s).x1 = s.x1 := by rw [reportOk_eq]
@[simp] theorem reportOk_x2 : (reportOk s).x2 = s.x2 := by rw [reportOk_eq]
@[simp] theorem reportOk_x3 : (reportOk s).x3 = s.x3 := by rw [reportOk_eq]
@[simp] theorem reportOk_calOffset : (reportOk s).calOffset = s.calOffset := by rw [reportOk_eq]
@[simp] theorem reportOk_calSlope : (reportOk s).calSlope = s.calSlope := by rw [reportOk_eq]
@[simp] theorem reportOk_r0cfg : (reportOk s).r0cfg = s.r0cfg := by rw [reportOk_eq]
@[simp] theorem reportOk_curve : (reportOk s).curve = s.curve := by rw [reportOk_eq]
@[simp] theorem reportOk_fault : (reportOk s).fault = s.fault := by rw [reportOk_eq]
@[simp] theorem reportOk_valid : (reportOk s).valid = s.valid := by rw [reportOk_eq]
@[simp] theorem reportOk_err : (reportOk s).err = false := by rw [reportOk_eq]
@[simp] theorem reportOk_cause : (reportOk s).cause = 0#2 := by rw [reportOk_eq]
@[simp] theorem reportOk_rtdcode : (reportOk s).rtdcode = s.rtdcode := by rw [reportOk_eq]
@[simp] theorem reportOk_hft : (reportOk s).hft = s.hft := by rw [reportOk_eq]
@[simp] theorem reportOk_lft : (reportOk s).lft = s.lft := by rw [reportOk_eq]
@[simp] theorem reportOk_fstat : (reportOk s).fstat = s.fstat := by rw [reportOk_eq]
@[simp] theorem reportOk_cfgrd : (reportOk s).cfgrd = s.cfgrd := by rw [reportOk_eq]
@[simp] theorem reportOk_fb : (reportOk s).fb = s.fb := by rw [reportOk_eq]
@[simp] theorem reportOk_cs : (reportOk s).cs = s.cs := by rw [reportOk_eq]
@[simp] theorem reportOk_seq : (reportOk s).seq = s.seq := by rw [reportOk_eq]
@[simp] theorem reportOk_cmd : (reportOk s).cmd = s.cmd := by rw [reportOk_eq]
@[simp] theorem reportOk_trace : (reportOk s).trace = s.trace := by rw [reportOk_eq]
@[simp] theorem reportOk_params : (reportOk s).params = s.params := by rw [reportOk_eq]
@[simp] theorem reportOk_program : (reportOk s).program = s.program := by rw [reportOk_eq]
@[simp] theorem reportOk_reads : (reportOk s).reads = s.reads := by rw [reportOk_eq]
@[simp] theorem reportOk_script : (reportOk s).script = s.script := by rw [reportOk_eq]
@[simp] theorem reportOk_draws : (reportOk s).draws = s.draws := by rw [reportOk_eq]

end

/-! ### reportFailure -/
section
variable (k : FailKind) (s : State)

@[simp] theorem reportFailure_x0 : (reportFailure k s).x0 = s.x0 := by rw [reportFailure_eq]
@[simp] theorem reportFailure_x1 : (reportFailure k s).x1 = s.x1 := by rw [reportFailure_eq]
@[simp] theorem reportFailure_x2 : (reportFailure k s).x2 = s.x2 := by rw [reportFailure_eq]
@[simp] theorem reportFailure_x3 : (reportFailure k s).x3 = s.x3 := by rw [reportFailure_eq]
@[simp] theorem reportFailure_calOffset : (reportFailure k s).calOffset = s.calOffset := by rw [reportFailure_eq]
@[simp] theorem reportFailure_calSlope : (reportFailure k s).calSlope = s.calSlope := by rw [reportFailure_eq]
@[simp] theorem reportFailure_r0cfg : (reportFailure k s).r0cfg = s.r0cfg := by rw [reportFailure_eq]
@[simp] theorem reportFailure_curve : (reportFailure k s).curve = s.curve := by rw [reportFailure_eq]
@[simp] theorem reportFailure_fault : (reportFailure k s).fault = s.fault := by rw [reportFailure_eq]
@[simp] theorem reportFailure_valid : (reportFailure k s).valid = s.valid := by rw [reportFailure_eq]
@[simp] theorem reportFailure_err : (reportFailure k s).err = true := by rw [reportFailure_eq]
@[simp] theorem reportFailure_cause : (reportFailure k s).cause = causeCode k := by rw [reportFailure_eq]
@[simp] theorem reportFailure_rtdcode : (reportFailure k s).rtdcode = s.rtdcode := by rw [reportFailure_eq]
@[simp] theorem reportFailure_hft : (reportFailure k s).hft = s.hft := by rw [reportFailure_eq]
@[simp] theorem reportFailure_lft : (reportFailure k s).lft = s.lft := by rw [reportFailure_eq]
@[simp] theorem reportFailure_fstat : (reportFailure k s).fstat = s.fstat := by rw [reportFailure_eq]
@[simp] theorem reportFailure_cfgrd : (reportFailure k s).cfgrd = s.cfgrd := by rw [reportFailure_eq]
@[simp] theorem reportFailure_fb : (reportFailure k s).fb = s.fb := by rw [reportFailure_eq]
@[simp] theorem reportFailure_cs : (reportFailure k s).cs = s.cs := by rw [reportFailure_eq]
@[simp] theorem reportFailure_seq : (reportFailure k s).seq = s.seq := by rw [reportFailure_eq]
@[simp] theorem reportFailure_cmd : (reportFailure k s).cmd = s.cmd := by rw [reportFailure_eq]
@[simp] theorem reportFailure_trace : (reportFailure k s).trace = s.trace := by rw [reportFailure_eq]
@[simp] theorem reportFailure_params : (reportFailure k s).params = s.params := by rw [reportFailure_eq]
@[simp] theorem reportFailure_program : (reportFailure k s).program = s.program := by rw [reportFailure_eq]
@[simp] theorem reportFailure_reads : (reportFailure k s).reads = s.reads := by rw [reportFailure_eq]
@[simp] theorem reportFailure_script : (reportFailure k s).script = s.script := by rw [reportFailure_eq]
@[simp] theorem reportFailure_draws : (reportFailure k s).draws = s.draws := by rw [reportFailure_eq]

end

/-! ### decodeFrame -/
section
variable (s : State)

@[simp] theorem decodeFrame_x0 : (decodeFrame s).x0 = s.x0 := by rw [decodeFrame_eq]
@[simp] theorem decodeFrame_x1 : (decodeFrame s).x1 = s.x1 := by rw [decodeFrame_eq]
@[simp] theorem decodeFrame_x2 : (decodeFrame s).x2 = s.x2 := by rw [decodeFrame_eq]
@[simp] theorem decodeFrame_x3 : (decodeFrame s).x3 = s.x3 := by rw [decodeFrame_eq]
@[simp] theorem decodeFrame_calOffset : (decodeFrame s).calOffset = s.calOffset := by rw [decodeFrame_eq]
@[simp] theorem decodeFrame_calSlope : (decodeFrame s).calSlope = s.calSlope := by rw [decodeFrame_eq]
@[simp] theorem decodeFrame_r0cfg : (decodeFrame s).r0cfg = s.r0cfg := by rw [decodeFrame_eq]
@[simp] theorem decodeFrame_curve : (decodeFrame s).curve = s.curve := by rw [decodeFrame_eq]
@[simp] theorem decodeFrame_fault : (decodeFrame s).fault = s.fault := by rw [decodeFrame_eq]
@[simp] theorem decodeFrame_valid : (decodeFrame s).valid = s.valid := by rw [decodeFrame_eq]
@[simp] theorem decodeFrame_err : (decodeFrame s).err = s.err := by rw [decodeFrame_eq]
@[simp] theorem decodeFrame_cause : (decodeFrame s).cause = s.cause := by rw [decodeFrame_eq]
@[simp] theorem decodeFrame_rtdcode : (decodeFrame s).rtdcode = Frame.rtdcode s.fb := by rw [decodeFrame_eq]
@[simp] theorem decodeFrame_hft : (decodeFrame s).hft = Frame.hft s.fb := by rw [decodeFrame_eq]
@[simp] theorem decodeFrame_lft : (decodeFrame s).lft = Frame.lft s.fb := by rw [decodeFrame_eq]
@[simp] theorem decodeFrame_fstat : (decodeFrame s).fstat = Frame.fstat s.fb := by rw [decodeFrame_eq]
@[simp] theorem decodeFrame_cfgrd : (decodeFrame s).cfgrd = s.cfgrd := by rw [decodeFrame_eq]
@[simp] theorem decodeFrame_fb : (decodeFrame s).fb = s.fb := by rw [decodeFrame_eq]
@[simp] theorem decodeFrame_cs : (decodeFrame s).cs = s.cs := by rw [decodeFrame_eq]
@[simp] theorem decodeFrame_seq : (decodeFrame s).seq = s.seq := by rw [decodeFrame_eq]
@[simp] theorem decodeFrame_cmd : (decodeFrame s).cmd = s.cmd := by rw [decodeFrame_eq]
@[simp] theorem decodeFrame_trace : (decodeFrame s).trace = s.trace := by rw [decodeFrame_eq]
@[simp] theorem decodeFrame_params : (decodeFrame s).params = s.params := by rw [decodeFrame_eq]
@[simp] theorem decodeFrame_program : (decodeFrame s).program = s.program := by rw [decodeFrame_eq]
@[simp] theorem decodeFrame_reads : (decodeFrame s).reads = s.reads := by rw [decodeFrame_eq]
@[simp] theorem decodeFrame_script : (decodeFrame s).script = s.script := by rw [decodeFrame_eq]
@[simp] theorem decodeFrame_draws : (decodeFrame s).draws = s.draws := by rw [decodeFrame_eq]

end

/-! ### deliver -/
section
variable (s : State)

@[simp] theorem deliver_x0 : (deliver s).x0 = s.x0 := by rw [deliver_eq]
@[simp] theorem deliver_x1 : (deliver s).x1 = s.x1 := by rw [deliver_eq]
@[simp] theorem deliver_x3 : (deliver s).x3 = settle s.draws (ohmsOfCode s.rtdcode s.params.rRef) := by rw [deliver_eq]
@[simp] theorem deliver_calOffset : (deliver s).calOffset = s.calOffset := by rw [deliver_eq]
@[simp] theorem deliver_calSlope : (deliver s).calSlope = s.calSlope := by rw [deliver_eq]
@[simp] theorem deliver_r0cfg : (deliver s).r0cfg = s.r0cfg := by rw [deliver_eq]
@[simp] theorem deliver_curve : (deliver s).curve = s.curve := by rw [deliver_eq]
@[simp] theorem deliver_fault : (deliver s).fault = s.fault := by rw [deliver_eq]
@[simp] theorem deliver_valid : (deliver s).valid = !faulted s := by rw [deliver_eq]
@[simp] theorem deliver_err : (deliver s).err = false := by rw [deliver_eq]
@[simp] theorem deliver_cause : (deliver s).cause = 0#2 := by rw [deliver_eq]
@[simp] theorem deliver_rtdcode : (deliver s).rtdcode = s.rtdcode := by rw [deliver_eq]
@[simp] theorem deliver_hft : (deliver s).hft = s.hft := by rw [deliver_eq]
@[simp] theorem deliver_lft : (deliver s).lft = s.lft := by rw [deliver_eq]
@[simp] theorem deliver_fstat : (deliver s).fstat = s.fstat := by rw [deliver_eq]
@[simp] theorem deliver_cfgrd : (deliver s).cfgrd = s.cfgrd := by rw [deliver_eq]
@[simp] theorem deliver_fb : (deliver s).fb = s.fb := by rw [deliver_eq]
@[simp] theorem deliver_cs : (deliver s).cs = s.cs := by rw [deliver_eq]
@[simp] theorem deliver_seq : (deliver s).seq = .idle := by rw [deliver_eq]
@[simp] theorem deliver_cmd : (deliver s).cmd = s.cmd := by rw [deliver_eq]
@[simp] theorem deliver_trace : (deliver s).trace = s.trace := by rw [deliver_eq]
@[simp] theorem deliver_params : (deliver s).params = s.params := by rw [deliver_eq]
@[simp] theorem deliver_program : (deliver s).program = s.program := by rw [deliver_eq]
@[simp] theorem deliver_reads : (deliver s).reads = s.reads := by rw [deliver_eq]
@[simp] theorem deliver_script : (deliver s).script = s.script := by rw [deliver_eq]
@[simp] theorem deliver_draws : (deliver s).draws = s.draws + 2 := by rw [deliver_eq]

end

/-! ### raiseTransport -/
section
variable (k : FailKind) (s : State)

@[simp] theorem raiseTransport_x0 : (raiseTransport k s).x0 = s.x0 := by rw [raiseTransport_frame]
@[simp] theorem raiseTransport_x1 : (raiseTransport k s).x1 = s.x1 := by rw [raiseTransport_frame]
@[simp] theorem raiseTransport_calOffset : (raiseTransport k s).calOffset = s.calOffset := by rw [raiseTransport_frame]
@[simp] theorem raiseTransport_calSlope : (raiseTransport k s).calSlope = s.calSlope := by rw [raiseTransport_frame]
@[simp] theorem raiseTransport_r0cfg : (raiseTransport k s).r0cfg = s.r0cfg := by rw [raiseTransport_frame]
@[simp] theorem raiseTransport_curve : (raiseTransport k s).curve = s.curve := by rw [raiseTransport_frame]
@[simp] theorem raiseTransport_fault : (raiseTransport k s).fault = s.fault := by rw [raiseTransport_frame]
@[simp] theorem raiseTransport_valid : (raiseTransport k s).valid = false := by rw [raiseTransport_frame]
@[simp] theorem raiseTransport_err : (raiseTransport k s).err = true := by rw [raiseTransport_frame]
@[simp] theorem raiseTransport_cause : (raiseTransport k s).cause = causeCode k := by rw [raiseTransport_frame]
@[simp] theorem raiseTransport_cfgrd : (raiseTransport k s).cfgrd = s.cfgrd := by rw [raiseTransport_frame]
@[simp] theorem raiseTransport_cs : (raiseTransport k s).cs = s.cs := by rw [raiseTransport_frame]
@[simp] theorem raiseTransport_seq : (raiseTransport k s).seq = .idle := by rw [raiseTransport_frame]
@[simp] theorem raiseTransport_cmd : (raiseTransport k s).cmd = s.cmd := by rw [raiseTransport_frame]
@[simp] theorem raiseTransport_trace : (raiseTransport k s).trace = s.trace := by rw [raiseTransport_frame]
@[simp] theorem raiseTransport_params : (raiseTransport k s).params = s.params := by rw [raiseTransport_frame]
@[simp] theorem raiseTransport_program : (raiseTransport k s).program = s.program := by rw [raiseTransport_frame]
@[simp] theorem raiseTransport_reads : (raiseTransport k s).reads = s.reads := by rw [raiseTransport_frame]
@[simp] theorem raiseTransport_script : (raiseTransport k s).script = s.script := by rw [raiseTransport_frame]

end

/-! ### raiseRecoveryTransport -/
section
variable (k : FailKind) (s : State)

@[simp] theorem raiseRecoveryTransport_x0 : (raiseRecoveryTransport k s).x0 = s.x0 := by rw [raiseRecoveryTransport_frame]
@[simp] theorem raiseRecoveryTransport_x1 : (raiseRecoveryTransport k s).x1 = s.x1 := by rw [raiseRecoveryTransport_frame]
@[simp] theorem raiseRecoveryTransport_calOffset : (raiseRecoveryTransport k s).calOffset = s.calOffset := by rw [raiseRecoveryTransport_frame]
@[simp] theorem raiseRecoveryTransport_calSlope : (raiseRecoveryTransport k s).calSlope = s.calSlope := by rw [raiseRecoveryTransport_frame]
@[simp] theorem raiseRecoveryTransport_r0cfg : (raiseRecoveryTransport k s).r0cfg = s.r0cfg := by rw [raiseRecoveryTransport_frame]
@[simp] theorem raiseRecoveryTransport_curve : (raiseRecoveryTransport k s).curve = s.curve := by rw [raiseRecoveryTransport_frame]
@[simp] theorem raiseRecoveryTransport_fault : (raiseRecoveryTransport k s).fault = s.fault := by rw [raiseRecoveryTransport_frame]
@[simp] theorem raiseRecoveryTransport_valid : (raiseRecoveryTransport k s).valid = false := by rw [raiseRecoveryTransport_frame]
@[simp] theorem raiseRecoveryTransport_err : (raiseRecoveryTransport k s).err = true := by rw [raiseRecoveryTransport_frame]
@[simp] theorem raiseRecoveryTransport_cause : (raiseRecoveryTransport k s).cause = causeCode k := by rw [raiseRecoveryTransport_frame]
@[simp] theorem raiseRecoveryTransport_rtdcode : (raiseRecoveryTransport k s).rtdcode = s.rtdcode := by rw [raiseRecoveryTransport_frame]
@[simp] theorem raiseRecoveryTransport_hft : (raiseRecoveryTransport k s).hft = s.hft := by rw [raiseRecoveryTransport_frame]
@[simp] theorem raiseRecoveryTransport_lft : (raiseRecoveryTransport k s).lft = s.lft := by rw [raiseRecoveryTransport_frame]
@[simp] theorem raiseRecoveryTransport_fstat : (raiseRecoveryTransport k s).fstat = s.fstat := by rw [raiseRecoveryTransport_frame]
@[simp] theorem raiseRecoveryTransport_cfgrd : (raiseRecoveryTransport k s).cfgrd = s.cfgrd := by rw [raiseRecoveryTransport_frame]
@[simp] theorem raiseRecoveryTransport_fb : (raiseRecoveryTransport k s).fb = s.fb := by rw [raiseRecoveryTransport_frame]
@[simp] theorem raiseRecoveryTransport_cs : (raiseRecoveryTransport k s).cs = s.cs := by rw [raiseRecoveryTransport_frame]
@[simp] theorem raiseRecoveryTransport_seq : (raiseRecoveryTransport k s).seq = .idle := by rw [raiseRecoveryTransport_frame]
@[simp] theorem raiseRecoveryTransport_cmd : (raiseRecoveryTransport k s).cmd = s.cmd := by rw [raiseRecoveryTransport_frame]
@[simp] theorem raiseRecoveryTransport_trace : (raiseRecoveryTransport k s).trace = s.trace := by rw [raiseRecoveryTransport_frame]
@[simp] theorem raiseRecoveryTransport_params : (raiseRecoveryTransport k s).params = s.params := by rw [raiseRecoveryTransport_frame]
@[simp] theorem raiseRecoveryTransport_program : (raiseRecoveryTransport k s).program = s.program := by rw [raiseRecoveryTransport_frame]
@[simp] theorem raiseRecoveryTransport_reads : (raiseRecoveryTransport k s).reads = s.reads := by rw [raiseRecoveryTransport_frame]
@[simp] theorem raiseRecoveryTransport_script : (raiseRecoveryTransport k s).script = s.script := by rw [raiseRecoveryTransport_frame]
@[simp] theorem raiseRecoveryTransport_draws : (raiseRecoveryTransport k s).draws = s.draws + 2 := by rw [raiseRecoveryTransport_frame]

end

end Sys2Proof.Machine
end

