-- ==== Sys2Proof/Laws/Exec.lean ====
section
/-! SUPPORT. What `exec`, the sequencer and `step` can do, said once, for later proofs to cite. -/

namespace Sys2Proof.Machine

/-- The effect of each operation as one function of the state. -/
def effectOf : Instr → State → State
  | .r2tPt385 => effR2tPt385
  | .r2tPt391 => effR2tPt391
  | .r2tCu428 => effR2tCu428
  | .r2tNi617 => effR2tNi617
  | .t2rPt385 => effT2rPt385
  | .t2rPt391 => effT2rPt391
  | .t2rCu428 => effT2rCu428
  | .t2rNi617 => effT2rNi617
  | .cal => effCal
  | .conv => effConv
  | .acq => effAcq
  | .init2w => effInit .w2
  | .init3w => effInit .w3
  | .init4w => effInit .w4
  | .rdcfg => effRdcfg

theorem exec_eq_operate (i : Instr) (s : State) : exec i s = operate (effectOf i) s := by cases i <;> rfl

/-- In `IDLE` every operation completes, with its effect. -/
theorem exec_idle (i : Instr) {s : State} (h : s.seq = .idle) : exec i s = .next (effectOf i s) := by
  rw [exec_eq_operate, operate_idle h]

/-- In every other phase every operation is refused (rule R68). -/
theorem exec_busy (i : Instr) {s : State} (h : s.seq ≠ .idle) : exec i s = .refused .hostBlocked := by
  rw [exec_eq_operate, operate_busy h]

theorem exec_next {i : Instr} {s t : State} (h : exec i s = .next t) : s.seq = .idle ∧ t = effectOf i s :=
  operate_next (exec_eq_operate i s ▸ h)

/-- A pure operation writes one result register (rules R110, R130, R150, R151). -/
theorem pureEffect_result {i : Instr} {f : State → State} (h : pureEffect i = some f) (s : State) :
    ∃ v, f s = writeResult v s := by
  cases i <;> simp only [pureEffect, Option.some.injEq, reduceCtorEq] at h <;> subst h <;> exact ⟨_, rfl⟩

/-- `INIT.*` touches the bus and its report only (rule R170). -/
theorem effInit_eq (w : Wiring) (s : State) :
    effInit w s =
      reportTransfer (nextReply (csAssert s)).outcome (csRelease (busTx [addrCfgWr, cfgByte w] (csAssert s))) := rfl

/-- The two outcomes of `RDCFG` (rule R171). -/
theorem effRdcfg_cases (s : State) :
    (∃ bytes, (memRead addrCfgRd 1 s).1 = .ok bytes ∧
        effRdcfg s = reportOk ((memRead addrCfgRd 1 s).2.setCfgrd (bytes.getD 0 0#8))) ∨
      (∃ k, (memRead addrCfgRd 1 s).1 = .fail k ∧
        effRdcfg s = loseCfgrd (reportFailure k (memRead addrCfgRd 1 s).2)) := by
  cases h : memRead addrCfgRd 1 s with
  | mk r s1 =>
    cases r with
    | ok bytes => exact .inl ⟨bytes, rfl, by simp only [effRdcfg, h]⟩
    | fail k => exact .inr ⟨k, rfl, by simp only [effRdcfg, h]⟩

/-- The four outcomes of `ACQ` (rules R160, R167): the read fails; a clean frame is delivered; a faulted
frame is recovered and delivered; the recovery write fails. -/
theorem effAcq_cases (s : State) :
    (∃ k, (memRead addrData frameLen s).1 = .fail k ∧
        effAcq s = raiseTransport k (memRead addrData frameLen s).2) ∨
      (∃ bytes s2, (memRead addrData frameLen s).1 = .ok bytes ∧
        s2 = decodeFrame ((memRead addrData frameLen s).2.setFb (Frame.ofBytes bytes)) ∧
        ((faulted s2 = false ∧ effAcq s = deliver s2) ∨
          (faulted s2 = true ∧ (memWrite addrCfgWr [recovCfg] (s2.setFault true)).1 = .ok ∧
            effAcq s = deliver ((memWrite addrCfgWr [recovCfg] (s2.setFault true)).2.setFault false)) ∨
          (faulted s2 = true ∧ ∃ k, (memWrite addrCfgWr [recovCfg] (s2.setFault true)).1 = .fail k ∧
            effAcq s =
              raiseRecoveryTransport k
                ((memWrite addrCfgWr [recovCfg] (s2.setFault true)).2.setFault false)))) := by
  cases h : memRead addrData frameLen s with
  | mk r s1 =>
    cases r with
    | fail k => exact .inl ⟨k, rfl, by simp only [effAcq, h]⟩
    | ok bytes =>
      refine .inr ⟨bytes, _, rfl, rfl, ?_⟩
      cases hf : faulted (decodeFrame (s1.setFb (Frame.ofBytes bytes))) with
      | false => exact .inl ⟨rfl, by simp [effAcq, h, hf]⟩
      | true =>
        refine .inr ?_
        cases hw : memWrite addrCfgWr [recovCfg]
            ((decodeFrame (s1.setFb (Frame.ofBytes bytes))).setFault true) with
        | mk rr s3 =>
          cases rr with
          | ok => exact .inl ⟨rfl, rfl, by simp [effAcq, h, hf, recoverAndDeliver, hw]⟩
          | fail k => exact .inr ⟨rfl, k, rfl, by simp [effAcq, h, hf, recoverAndDeliver, hw]⟩

/-- What `INIT.*` leaves alone (rule R170). -/
theorem effInit_frame (w : Wiring) (s : State) :
    effInit w s =
      { s with
        err := (effInit w s).err
        cause := (effInit w s).cause
        cs := .released
        trace := (effInit w s).trace
        script := (effInit w s).script
        draws := (effInit w s).draws } := by
  rw [effInit_eq]
  cases (nextReply (csAssert s)).outcome <;>
    simp only [reportTransfer, reportOk_eq, reportFailure_eq, csRelease_eq, busTx_eq, csAssert_eq]

/-- What `RDCFG` leaves alone (rule R171). -/
theorem effRdcfg_frame (s : State) :
    effRdcfg s =
      { s with
        cfgrd := (effRdcfg s).cfgrd
        err := (effRdcfg s).err
        cause := (effRdcfg s).cause
        cs := .released
        trace := (effRdcfg s).trace
        script := (effRdcfg s).script
        draws := (effRdcfg s).draws } := by
  have hm := memRead_frame addrCfgRd 1 s
  rcases effRdcfg_cases s with ⟨b, -, h⟩ | ⟨k, -, h⟩ <;> rw [h, hm] <;>
    simp only [reportOk_eq, reportFailure_eq, loseCfgrd_eq, State.setCfgrd]

/-- What `ACQ` leaves alone (rule R160). -/
theorem effAcq_frame (s : State) :
    effAcq s =
      { s with
        fb := (effAcq s).fb
        rtdcode := (effAcq s).rtdcode
        hft := (effAcq s).hft
        lft := (effAcq s).lft
        fstat := (effAcq s).fstat
        x2 := (effAcq s).x2
        x3 := (effAcq s).x3
        fault := (effAcq s).fault
        valid := (effAcq s).valid
        err := (effAcq s).err
        cause := (effAcq s).cause
        cs := .released
        seq := .idle
        trace := (effAcq s).trace
        script := (effAcq s).script
        draws := (effAcq s).draws } := by
  have hm := memRead_frame addrData frameLen s
  rcases effAcq_cases s with ⟨k, -, h⟩ | ⟨b, s2, -, h2, ⟨-, h⟩ | ⟨-, -, h⟩ | ⟨-, k, -, h⟩⟩
  · rw [h, hm, raiseTransport_eq, abortAcquisition_eq, loseFrame_frame]
  · rw [h, h2, hm]
    simp only [deliver_eq, decodeFrame_eq, State.setFb]
  · rw [h, h2, hm, memWrite_eq]
    simp only [deliver_eq, decodeFrame_eq, State.setFb, State.setFault, csRelease_eq, busTx_eq, csAssert_eq]
  · rw [h, h2, hm, memWrite_eq]
    simp only [raiseRecoveryTransport_eq, abortAcquisition_eq, decodeFrame_eq, State.setFb, State.setFault,
      csRelease_eq, busTx_eq, csAssert_eq]

/-- Every operation started in `IDLE` ends in `IDLE` (rules R23, R160). -/
theorem effectOf_seq (i : Instr) {s : State} (h : s.seq = .idle) : (effectOf i s).seq = .idle := by
  cases i
  case acq =>
    show (effAcq s).seq = .idle
    rw [effAcq_frame]
  case rdcfg =>
    show (effRdcfg s).seq = .idle
    rw [effRdcfg_frame]
    exact h
  case init2w | init3w | init4w =>
    all_goals
      show (effInit _ s).seq = .idle
      rw [effInit_frame]
      exact h
  all_goals exact h

/-! ### The step -/

/-- In `IDLE` with no line left RTDCORE waits (rule R40). -/
theorem step_waits {s : State} (h : s.seq = .idle) (hp : s.program = []) : step s = .next s := by
  simp [step, h, hp]

/-- In `IDLE` the host performs its next line (rule R96). -/
theorem step_line {s : State} {a : Action} {rest : List Action} (h : s.seq = .idle)
    (hp : s.program = a :: rest) : step s = perform a (s.setProgram rest) := by simp [step, h, hp]

/-- In any other phase the sequencer moves on (rule R23). -/
theorem step_busy {s : State} (h : s.seq ≠ .idle) : step s = tick s := by simp [step, h]

/-- The three things a step can be. -/
theorem step_cases (s : State) :
    (s.seq = .idle ∧ s.program = [] ∧ step s = .next s) ∨
      (∃ a rest, s.seq = .idle ∧ s.program = a :: rest ∧ step s = perform a (s.setProgram rest)) ∨
      (s.seq ≠ .idle ∧ step s = tick s) := by
  by_cases h : s.seq = .idle
  · cases hp : s.program with
    | nil => exact .inl ⟨h, rfl, step_waits h hp⟩
    | cons a rest => exact .inr (.inl ⟨a, rest, h, rfl, step_line h hp⟩)
  · exact .inr (.inr ⟨h, step_busy h⟩)

/-- What `perform` can do in `IDLE` when it answers a next state: the host's reads and writes change one
register or note one reading, a start runs its operation, a reset leaves the state after reset. -/
theorem perform_start {s : State} {w : BitVec 8} {i : Instr} (h : s.seq = .idle) (hd : decode w = .ok i) :
    perform (.start w) s = exec i (s.setCmd w) := by simp [perform, hostStart, inIdle, h, hd]

theorem perform_reserved {s : State} {w : BitVec 8} {e : DecodeError} (h : s.seq = .idle)
    (hd : decode w = .error e) : perform (.start w) s = .refused (.reservedCommand w) := by
  simp [perform, hostStart, inIdle, h, hd]

/-- A placed instruction word is the line the next step performs. -/
theorem step_withFetchWord (s : State) (nbits w : Nat) :
    step (s.withFetchWord nbits w) =
      perform (.start (BitVec.ofNat 8 (w % 2 ^ nbits))) (s.setSeq .idle) := by
  rw [step_line (a := .start (BitVec.ofNat 8 (w % 2 ^ nbits))) (rest := s.program) rfl rfl]
  rfl

/-! ### The bus order -/

/-- A trace in order, followed by events in order from where it stands. -/
theorem busReplay_append (c : ChipSelect) (l m : List BusEvent) :
    busReplay c (l ++ m) = (busReplay c l).bind fun d => busReplay d m := by
  induction l generalizing c with
  | nil => rfl
  | cons e rest ih =>
    simp only [List.cons_append, busReplay]
    cases busNext c e with
    | none => rfl
    | some d => exact ih d

end Sys2Proof.Machine
end

