-- ==== Sys2Proof/Laws/PerInstr.lean ====
section
/-! SUPPORT. Facts about every operation as it is written: the decoder reads back what the encoder writes,
and the command word is the table's. One lemma per constructor. -/

namespace Sys2Proof.Laws.RoundTrip

/-- Decoding the command word of an operation gives the operation. -/
def Statement (i : Instr) : Prop := decode (encode i) = .ok i

theorem r2tPt385 : Statement .r2tPt385 := rfl
theorem r2tPt391 : Statement .r2tPt391 := rfl
theorem r2tCu428 : Statement .r2tCu428 := rfl
theorem r2tNi617 : Statement .r2tNi617 := rfl
theorem t2rPt385 : Statement .t2rPt385 := rfl
theorem t2rPt391 : Statement .t2rPt391 := rfl
theorem t2rCu428 : Statement .t2rCu428 := rfl
theorem t2rNi617 : Statement .t2rNi617 := rfl
theorem cal : Statement .cal := rfl
theorem conv : Statement .conv := rfl
theorem acq : Statement .acq := rfl
theorem init2w : Statement .init2w := rfl
theorem init3w : Statement .init3w := rfl
theorem init4w : Statement .init4w := rfl
theorem rdcfg : Statement .rdcfg := rfl

end Sys2Proof.Laws.RoundTrip

namespace Sys2Proof.Laws.TableFields

/-- The command word has the fields of rule R80: `op` of the table, `z = 00`, `sel` of the table; and it is
one of the fifteen legal words of rule R81. -/
def Statement (i : Instr) : Prop :=
  opField (encode i) = i.op ∧ zField (encode i) = 0#2 ∧ selField (encode i) = i.sel ∧
    legalCommands.contains (encode i) = true

theorem r2tPt385 : Statement .r2tPt385 := by unfold Statement; decide
theorem r2tPt391 : Statement .r2tPt391 := by unfold Statement; decide
theorem r2tCu428 : Statement .r2tCu428 := by unfold Statement; decide
theorem r2tNi617 : Statement .r2tNi617 := by unfold Statement; decide
theorem t2rPt385 : Statement .t2rPt385 := by unfold Statement; decide
theorem t2rPt391 : Statement .t2rPt391 := by unfold Statement; decide
theorem t2rCu428 : Statement .t2rCu428 := by unfold Statement; decide
theorem t2rNi617 : Statement .t2rNi617 := by unfold Statement; decide
theorem cal : Statement .cal := by unfold Statement; decide
theorem conv : Statement .conv := by unfold Statement; decide
theorem acq : Statement .acq := by unfold Statement; decide
theorem init2w : Statement .init2w := by unfold Statement; decide
theorem init3w : Statement .init3w := by unfold Statement; decide
theorem init4w : Statement .init4w := by unfold Statement; decide
theorem rdcfg : Statement .rdcfg := by unfold Statement; decide

end Sys2Proof.Laws.TableFields
end

