-- ==== Sys2Proof/Tests/Slice0.lean ====
section
/-! SUPPORT. Tests: well-formedness refuses ill-formed terms; every constructor's word, written out from the
spec's encoding, decodes to it; single operations against the vectors of spec/95_test_vectors.md (their ids stand
in the comments); and for every statement with hypotheses a concrete state that meets them. -/

namespace Sys2Proof.Tests

-- One theorem at a time: each evaluates in the kernel on a thread of its own, and many at once need much memory.
set_option Elab.async false

open Sys2Proof Sys2Proof.Machine

/-! ### Helpers -/

/-- The state after an operation. -/
def after (i : Instr) (s : State) : Option State :=
  match exec i s with
  | .next t => some t
  | .fault _ => none
  | .refused _ => none

/-- The state after a host action. -/
def afterAction (a : Action) (s : State) : Option State :=
  match perform a s with
  | .next t => some t
  | .fault _ => none
  | .refused _ => none

/-- The reset state with two operands. -/
def operands (a b : F) : State := { State.reset with x0 := a, x1 := b }

/-- The reset state with an operand and a calibration. -/
def calibrated (a slope offset : F) : State :=
  { State.reset with x0 := a, calSlope := slope, calOffset := offset }

/-- The reset state with the transport's answers. -/
def answered (l : List Reply) : State := { State.reset with script := l }

/-- The answer to a transmit that succeeds. -/
def ack : Reply := { outcome := .ok, bytes := [] }

/-- The answer to a receive that succeeds. -/
def data (l : List Byte) : Reply := { outcome := .ok, bytes := l }

/-- A failure. -/
def broken (k : FailKind) : Reply := { outcome := .fail k, bytes := [] }

/-- The frame of vector V-A1. -/
def cleanFrame : List Byte := [0x40#8, 0x00#8, 0xFF#8, 0xFF#8, 0x00#8, 0x00#8, 0x00#8]

/-- The frame of vector V-A2. -/
def faultFrame : List Byte := [0xFF#8, 0xFF#8, 0xFF#8, 0xFF#8, 0x00#8, 0x00#8, 0x04#8]

/-! ### Well-formedness: each check refuses an ill-formed term -/

theorem test_wf_refuses_x4 : HostReg.wf (.x 4) = false := by decide
theorem test_wf_refuses_c10 : HostReg.wf (.c 10) = false := by decide
theorem test_wf_accepts_last_registers : HostReg.wf (.x 3) = true ∧ HostReg.wf (.c 9) = true := by decide
theorem test_wf_refuses_write_to_missing : Action.wf (.write (.x 4) 0#64) = false := by decide
theorem test_wf_refuses_read_of_missing : Action.wf (.read (.c 10)) = false := by decide
theorem test_wf_refuses_reserved_start : Action.wf (.start 0x53#8) = false := by decide
theorem test_wf_refuses_copy_to_missing : Action.wf (.copy (.c 10) (.x 0)) = false := by decide
theorem test_wf_refuses_copy_from_missing : Action.wf (.copy (.x 0) (.x 4)) = false := by decide
theorem test_wf_refuses_word_hole : Action.wf (.wordWrite 5 0#64) = false := by decide
theorem test_wf_refuses_reserved_word_start : Action.wf (.wordWrite 31 0x53#64) = false := by decide
theorem test_wf_refuses_read_of_command_port : Action.wf (.wordRead 31) = false := by decide
theorem test_wf_accepts_every_operation : ∀ i : Instr, i.wf = true := by intro i; cases i <;> rfl

/-! ### Decoding: `op`, `z`, `sel` written out (rules R80 to R83) -/

theorem test_decode_r2tPt385 : decode (0b0000#4 ++ 0b00#2 ++ 0b00#2) = .ok .r2tPt385 := by decide
theorem test_decode_r2tPt391 : decode (0b0000#4 ++ 0b00#2 ++ 0b01#2) = .ok .r2tPt391 := by decide
theorem test_decode_r2tCu428 : decode (0b0000#4 ++ 0b00#2 ++ 0b10#2) = .ok .r2tCu428 := by decide
theorem test_decode_r2tNi617 : decode (0b0000#4 ++ 0b00#2 ++ 0b11#2) = .ok .r2tNi617 := by decide
theorem test_decode_t2rPt385 : decode (0b0001#4 ++ 0b00#2 ++ 0b00#2) = .ok .t2rPt385 := by decide
theorem test_decode_t2rPt391 : decode (0b0001#4 ++ 0b00#2 ++ 0b01#2) = .ok .t2rPt391 := by decide
theorem test_decode_t2rCu428 : decode (0b0001#4 ++ 0b00#2 ++ 0b10#2) = .ok .t2rCu428 := by decide
theorem test_decode_t2rNi617 : decode (0b0001#4 ++ 0b00#2 ++ 0b11#2) = .ok .t2rNi617 := by decide
theorem test_decode_cal : decode (0b0010#4 ++ 0b00#2 ++ 0b00#2) = .ok .cal := by decide
theorem test_decode_conv : decode (0b0011#4 ++ 0b00#2 ++ 0b00#2) = .ok .conv := by decide
theorem test_decode_acq : decode (0b0100#4 ++ 0b00#2 ++ 0b00#2) = .ok .acq := by decide
theorem test_decode_init2w : decode (0b0101#4 ++ 0b00#2 ++ 0b00#2) = .ok .init2w := by decide
theorem test_decode_init3w : decode (0b0101#4 ++ 0b00#2 ++ 0b01#2) = .ok .init3w := by decide
theorem test_decode_init4w : decode (0b0101#4 ++ 0b00#2 ++ 0b10#2) = .ok .init4w := by decide
theorem test_decode_rdcfg : decode (0b0110#4 ++ 0b00#2 ++ 0b00#2) = .ok .rdcfg := by decide

/-- The reserved words of 95_test_vectors.md's decode vectors. -/
theorem test_decode_refuses_reserved :
    ∀ w ∈ [0x04#8, 0x0C#8, 0x21#8, 0x31#8, 0x41#8, 0x53#8, 0x61#8, 0x70#8, 0x80#8, 0xFF#8],
      ¬ ∃ i, decode w = .ok i := by
  intro w hw
  fin_cases hw <;> rintro ⟨i, h⟩ <;> cases h

theorem test_decode_table_word : decodeTableWord 8 0x40 = some .acq ∧ decodeTableWord 8 0x53 = none := by decide

/-- A placed word runs as the next step's operation. -/
theorem test_placed_word_runs :
    step (State.reset.withFetchWord 8 0x20) = exec .cal { State.reset with cmd := 0x20#8 } := by rfl

/-! ### Reset (rule R40) -/

theorem test_reset_status : readHostReg State.reset (.c 4) = some 0#64 := by decide +kernel
theorem test_reset_calibration :
    State.reset.calSlope = 0x3FF0000000000000#64 ∧ State.reset.r0cfg = 0x4059000000000000#64 := by decide +kernel
theorem test_reset_waits : step State.reset = .next State.reset := by rfl

/-! ### Operations against the spec's vectors -/

/-- V-P6. -/
theorem test_r2t_pt385_polynomial :
    (after .r2tPt385 (operands 0x4054000000000000#64 0x4059000000000000#64)).map (fun t => t.x2) =
      some 0xC04962C7E6DEF1BC#64 := by decide +kernel

/-- V-P13. -/
theorem test_r2t_pt385_sentinel :
    (after .r2tPt385 (operands 0x4087CA0000000000#64 0x4059000000000000#64)).map (fun t => fIsNaN t.x2) = some true := by
  show some (fIsNaN (settle _ _)) = some true
  rw [fIsNaN_settle]
  decide +kernel

/-- V-Q4. -/
theorem test_r2t_pt391_polynomial :
    (after .r2tPt391 (operands 0x40313D70A3D70A3D#64 0x4059000000000000#64)).map (fun t => t.x2) =
      some 0xC069004749FE0EC3#64 := by decide +kernel

/-- V-Q6. -/
theorem test_r2t_pt391_solver :
    (after .r2tPt391 (operands 0x4065FB851EB851EC#64 0x4059000000000000#64)).map (fun t => t.x2) =
      some 0x40689AA75FCB80AA#64 := by decide +kernel

/-- V-C7. -/
theorem test_r2t_cu428_polynomial :
    (after .r2tCu428 (operands 0x404C63D70A3D70A4#64 0x4059000000000000#64)).map (fun t => t.x2) =
      some 0xC058DCA94B9EA0E1#64 := by decide +kernel

/-- V-C11. -/
theorem test_r2t_cu428_zero_reference :
    (after .r2tCu428 (operands 0x4014000000000000#64 0x0000000000000000#64)).map (fun t => t.x2) =
      some 0x7FF0000000000000#64 := by decide +kernel

/-- V-N6. -/
theorem test_r2t_ni617_low_branch :
    (after .r2tNi617 (operands 0x408944A3D70A3D71#64 0x407F400000000000#64)).map (fun t => t.x2) =
      some 0x4058FFC1C9F4B95C#64 := by decide +kernel

/-- V-N14. -/
theorem test_r2t_ni617_degenerate :
    (after .r2tNi617 (operands 0x408C200000000000#64 0x405E000000000000#64)).map (fun t => t.x2) =
      some 0x408E9606D5B8B1B4#64 := by decide +kernel

/-- V-IP7. -/
theorem test_t2r_pt385_below_zero :
    (after .t2rPt385 (operands 0xC049000000000000#64 0x4059000000000000#64)).map (fun t => t.x2) =
      some 0x4054139A1F4B1EE3#64 := by decide +kernel

/-- V-IP4. -/
theorem test_t2r_pt385_above_zero :
    (after .t2rPt385 (operands 0x408A900000000000#64 0x4059000000000000#64)).map (fun t => t.x2) =
      some 0x407867B2B020C49B#64 := by decide +kernel

/-- V-IQ4. -/
theorem test_t2r_pt391_below_zero :
    (after .t2rPt391 (operands 0xC069000000000000#64 0x4059000000000000#64)).map (fun t => t.x2) =
      some 0x40313E90FF972472#64 := by decide +kernel

/-- V-IQ6. -/
theorem test_t2r_pt391_above_zero :
    (after .t2rPt391 (operands 0x4059000000000000#64 0x4049000000000000#64)).map (fun t => t.x2) =
      some 0x40516363886594AF#64 := by decide +kernel

/-- V-IC6. -/
theorem test_t2r_cu428_below_zero :
    (after .t2rCu428 (operands 0xC059000000000000#64 0x4059000000000000#64)).map (fun t => t.x2) =
      some 0x404C449E83634C56#64 := by decide +kernel

/-- V-IC4. -/
theorem test_t2r_cu428_above_zero :
    (after .t2rCu428 (operands 0x4049000000000000#64 0x4049000000000000#64)).map (fun t => t.x2) =
      some 0x404E599999999999#64 := by decide +kernel

/-- V-IN7. -/
theorem test_t2r_ni617_high_branch :
    (after .t2rNi617 (operands 0x4062C00000000000#64 0x407F400000000000#64)).map (fun t => t.x2) =
      some 0x408F0B2F9096BB98#64 := by decide +kernel

/-- V-IN6. -/
theorem test_t2r_ni617_low_branch :
    (after .t2rNi617 (operands 0xC04E000000000000#64 0x4059000000000000#64)).map (fun t => t.x2) =
      some 0x40515D11DFFC547A#64 := by decide +kernel

/-- V-K1. -/
theorem test_cal_point :
    (after .cal (calibrated 0x4059000000000000#64 0x3FF0CCCCCCCCCCCD#64 (0xBFD3333333333333#64))).map (fun t => t.x2) =
      some 0x405A2CCCCCCCCCCD#64 := by decide +kernel

/-- V-K6. -/
theorem test_cal_negative_zero :
    (after .cal (calibrated 0x8000000000000000#64 0x3FF0000000000000#64 (0x0000000000000000#64))).map (fun t => t.x2) =
      some 0x0000000000000000#64 := by decide +kernel

/-- V-V9. -/
theorem test_conv_calibrated :
    (after .conv (calibrated 0x4061502D0E560419#64 0x3FF0CCCCCCCCCCCD#64 (0xBFD3333333333333#64))).map (fun t => t.x2) =
      some 0x405A2CCCCCCCCCBB#64 := by decide +kernel

/-- V-V8. -/
theorem test_conv_sentinel :
    (after .conv (calibrated 0x4088100000000000#64 0x3FF0CCCCCCCCCCCD#64 (0xBFD3333333333333#64))).map (fun t => fIsNaN t.x2) = some true := by
  show some (fIsNaN (settle _ _)) = some true
  rw [fIsNaN_settle]
  decide +kernel

/-- V-A3: decoding, resistance, flags. -/
theorem test_acq_clean :
    (after .acq (answered [ack, data [0x5D#8, 0x9B#8, 0x12#8, 0x35#8, 0x12#8, 0x35#8, 0x00#8]])).map
        (fun t => (t.rtdcode, t.hft, t.lft, t.fstat, t.x3, statusByte t)) =
      some (0x2ECD#15, 0x091A#15, 0x1235#16, 0x00#8, 0x40639588A0000000#64, 0x02#8) := by decide +kernel

/-- V-A2: a faulted frame is recovered once and delivered. -/
theorem test_acq_faulted :
    (after .acq (answered [ack, data faultFrame, ack])).map (fun t => (t.trace, t.x3, statusByte t)) =
      some
        ([.csAssert, .tx [0x01#8] 100 .ok, .rx 7 100 (.ok faultFrame), .csRelease,
          .csAssert, .tx [0x80#8, 0xD3#8] 100 .ok, .csRelease], 0x407AC7CA70000000#64, 0x00#8) := by decide +kernel

/-- V-F1: raising on a failed read. -/
theorem test_raise_transport :
    (after .acq (answered [broken .timeout])).map (fun t => (t.trace, statusByte t)) =
      some ([.csAssert, .tx [0x01#8] 100 (.fail .timeout), .csRelease], 0x0C#8) := by decide +kernel

/-- V-F5: raising on a failed recovery write. -/
theorem test_raise_recovery_transport :
    (after .acq (answered [ack, data faultFrame, broken .error])).map
        (fun t => (statusByte t, t.rtdcode, t.fstat)) =
      some (0x14#8, 0x7FFF#15, 0x04#8) := by decide +kernel

/-- V-I1. -/
theorem test_init_2w :
    (after .init2w (answered [ack])).map (fun t => (t.trace, statusByte t)) =
      some ([.csAssert, .tx [0x80#8, 0xC3#8] 100 .ok, .csRelease], 0x00#8) := by decide +kernel

/-- V-I2. -/
theorem test_init_3w :
    (after .init3w (answered [ack])).map (fun t => (t.trace, statusByte t)) =
      some ([.csAssert, .tx [0x80#8, 0xD3#8] 100 .ok, .csRelease], 0x00#8) := by decide +kernel

/-- V-I4. -/
theorem test_init_4w_fails :
    (after .init4w (answered [broken .error])).map (fun t => (t.trace, statusByte t)) =
      some ([.csAssert, .tx [0x80#8, 0xC3#8] 100 (.fail .error), .csRelease], 0x14#8) := by decide +kernel

/-- V-R1. -/
theorem test_rdcfg :
    (after .rdcfg (answered [ack, data [0xA5#8]])).map (fun t => (t.trace, t.cfgrd, statusByte t)) =
      some ([.csAssert, .tx [0x00#8] 100 .ok, .rx 1 100 (.ok [0xA5#8]), .csRelease], 0xA5#8, 0x00#8) := by
  decide +kernel

/-- V-R2: the failed transmit skips the receive. -/
theorem test_rdcfg_fails :
    (after .rdcfg (answered [broken .timeout])).map (fun t => (t.trace, statusByte t)) =
      some ([.csAssert, .tx [0x00#8] 100 (.fail .timeout), .csRelease], 0x0C#8) := by decide +kernel

/-! ### The host -/

theorem test_curve_keeps_two_bits :
    (afterAction (.write (.c 3) 0xFF#64) State.reset).map (fun t => t.curve) = some 3#2 := by decide +kernel

theorem test_result_register_ignores_writes :
    (afterAction (.write (.x 2) 0xFF#64) State.reset).map (fun t => t.x2) = some 0#64 := by decide +kernel

theorem test_copy_moves_the_value :
    (afterAction (.copy (.x 0) (.c 2)) State.reset).map (fun t => t.x0) = some 0x4059000000000000#64 := by
  decide +kernel

theorem test_reserved_start_is_refused : perform (.start 0x53#8) State.reset = .refused (.reservedCommand 0x53#8) := by
  rfl

/-! ### The assembler (rules R95, R96) -/

/-- A line of program P1. -/
theorem test_asm_host_write :
    asmLine ['H', 'W', ' ', 'c', '0', ',', ' ', '-', '0', '.', '3', ' ', ';', 'C'] =
      .ok [.write (.c 0) 0xBFD3333333333333#64] := by decide +kernel

theorem test_asm_operation :
    asmLine ['I', 'N', 'I', 'T', '.', '4', 'W', ' ', ';', ' ', '0', 'x', '5', '2'] = .ok [.start 0x52#8] := by
  decide +kernel

theorem test_asm_pseudo_operation :
    asmLine ['R', '2', 'T', ' ', 'N', 'I', '6', '1', '7', ',', ' ', '5', ',', ' ', '1', 'e', '2'] =
      .ok [.write (.x 0) 0x4014000000000000#64, .write (.x 1) 0x4059000000000000#64, .start 0x03#8] := by
  decide +kernel

theorem test_asm_refuses_unknown : asmLine ['N', 'O', 'P'] = .error .badLine := by decide +kernel

/-! ### Phases (rule R168) -/

/-- V-A2 between the phases: `FAULT` stands after `FAULT_DET` and is gone after `RECOVER`. -/
theorem test_fault_is_seen_between_phases :
    (List.range 7).map (fun n =>
        match launch .acq (answered [ack, data faultFrame, ack]) with
        | .next s =>
          match ticks n s with
          | .next t => observe t
          | .fault _ | .refused _ => (false, .released)
        | .fault _ | .refused _ => (false, .released)) =
      [(false, .asserted), (false, .asserted), (false, .released), (false, .released), (true, .released),
        (false, .released), (false, .released)] := by decide +kernel

/-! ### Witnesses: a concrete case that meets each statement's hypotheses -/

/-- The reset state is in `IDLE`, which is the hypothesis of the statements about one operation. -/
theorem witness_idle : State.reset.seq = .idle := rfl

/-- A reserved word of each kind (`ReservedCommandWordsAreRefused`). -/
theorem witness_reserved_words :
    ∀ w ∈ [0x70#8, 0x04#8, 0x21#8, 0x53#8], State.reset.seq = .idle ∧ ¬ ∃ i, decode w = .ok i :=
  fun w hw => ⟨rfl, test_decode_refuses_reserved w (by fin_cases hw <;> decide)⟩

/-- `DecodeAndEncodeAreInverse`. -/
theorem witness_decode : decode 0x13#8 = .ok .t2rNi617 := by decide

/-- `ProgramBytesDecodeToItsOperations`. -/
theorem witness_program_bytes :
    ∀ a ∈ [Action.write (.x 0) 1#64, .start 0x00#8, .read (.x 2), .start 0x60#8], a.wf = true := by decide

/-- The bytes of the same program, in program order (rules R95, R96). -/
theorem test_program_bytes :
    commandBytes [Action.write (.x 0) 1#64, .start 0x00#8, .read (.x 2), .start 0x60#8] = [0x00#8, 0x60#8] := by
  decide

/-- `StepRunsTheDecodedOperation`. -/
theorem witness_step_runs :
    let s := { State.reset with program := [.start 0x20#8, .read (.x 2)] }
    s.seq = .idle ∧ s.program = .start 0x20#8 :: [.read (.x 2)] ∧ decode 0x20#8 = .ok .cal ∧ Instr.wf .cal = true :=
  ⟨rfl, rfl, rfl, rfl⟩

/-- `ProgramRunsItsOperationsInOrder`. -/
theorem witness_program_runs :
    let s := { State.reset with program := [.start 0x00#8, .start 0x20#8, .read (.x 2)] }
    s.seq = .idle ∧ s.program = ([Instr.r2tPt385, Instr.cal].map fun i => Action.start (encode i)) ++ [.read (.x 2)] :=
  ⟨rfl, rfl⟩

/-- `IdleStepPerformsExactlyWellFormedLines`: no line, a well-formed line, an ill-formed one. -/
theorem witness_idle_step :
    State.reset.program = [] ∧ Action.wf (.write (.c 9) 1#64) = true ∧ Action.wf (.write (.c 10) 1#64) = false := by
  decide

/-- `HostIsBlockedWhileAnOperationRuns`: a state in flight and a step from it. -/
theorem witness_busy :
    let s := { State.reset with seq := .faultDet, cmd := 0x40#8 }
    s.seq ≠ .idle ∧ ∃ t, step s = .next t := ⟨by decide, _, rfl⟩

/-- `ConversionsArePure`: two states that agree in the operands and differ elsewhere. -/
theorem witness_pure :
    let s := operands 1#64 2#64
    let u := { operands 1#64 2#64 with r0cfg := 7#64, draws := 3 }
    s.seq = .idle ∧ u.seq = .idle ∧ s.x0 = u.x0 ∧ s.x1 = u.x1 ∧ s.params.k = u.params.k ∧ s.r0cfg ≠ u.r0cfg :=
  ⟨rfl, rfl, rfl, rfl, rfl, by decide +kernel⟩

/-- `NegativeRadicandGivesTheSentinel`, one witness for each clause: V-P13, V-Q10, V-N24 for `R2T`. -/
theorem witness_radicand_pt385 :
    let s := operands 0x4087CA0000000000#64 0x4059000000000000#64
    s.seq = .idle ∧ Sys2Proof.Spec.negativeRadicand s.params.k .pt385 s.x0 s.x1 :=
  ⟨rfl, by decide +kernel, by decide +kernel⟩

theorem witness_radicand_pt391 :
    let s := operands 0x4088320000000000#64 0x4059000000000000#64
    s.seq = .idle ∧ Sys2Proof.Spec.negativeRadicand s.params.k .pt391 s.x0 s.x1 :=
  ⟨rfl, by decide +kernel, by decide +kernel⟩

theorem witness_radicand_ni617 :
    let s := operands 0xC034000000000000#64 0x4059000000000000#64
    s.seq = .idle ∧ Sys2Proof.Spec.negativeRadicand s.params.k .ni617 s.x0 s.x1 :=
  ⟨rfl, by decide +kernel, by decide +kernel⟩

/-- The clause of `CONV`, with each curve that has a root bound. -/
theorem witness_radicand_conv :
    ∀ w ∈ [(0#2, 0x4088100000000000#64), (1#2, 0x4088320000000000#64), (3#2, 0xC034000000000000#64)],
      let s := { operands w.2 0#64 with curve := w.1 }
      s.seq = .idle ∧
        Sys2Proof.Spec.negativeRadicand s.params.k (Sys2Proof.Spec.curveOf s.curve) s.x0 s.r0cfg := by
  intro w hw
  fin_cases hw <;> exact ⟨rfl, by decide +kernel, by decide +kernel⟩

/-- The clause of `ACQ`: the greatest code over a reference of 10.0, with and without a fault. -/
theorem witness_radicand_acq :
    ∀ b ∈ [0x00#8, 0x04#8],
      let s := { answered [ack, data [0xFF#8, 0xFF#8, 0#8, 0#8, 0#8, 0#8, b], ack] with r0cfg := 0x4024000000000000#64 }
      s.seq = .idle ∧ Sys2Proof.Spec.firstTx s = .ok ∧
        Sys2Proof.Spec.secondRx 7 s = .ok [0xFF#8, 0xFF#8, 0#8, 0#8, 0#8, 0#8, b] ∧
        Sys2Proof.Spec.thirdTx s = .ok ∧
        Sys2Proof.Spec.negativeRadicand s.params.k (Sys2Proof.Spec.curveOf s.curve)
          (fDiv (fMul (fOfNat ((255 * 256 + 255) / 2)) s.params.rRef) Sys2Proof.Spec.codeDivisor) s.r0cfg := by
  intro b hb
  fin_cases hb <;> exact ⟨rfl, rfl, rfl, rfl, by decide +kernel, by decide +kernel⟩

/-- `NanOperandsGiveNan` and the second clause of `ResetCalibrationIsTheIdentity`. -/
theorem witness_nan_operand :
    State.reset.seq = .idle ∧ fIsNaN (operands 0x7FF0000000000001#64 0#64).x0 = true ∧
      fIsNaN (operands 0#64 0xFFFFFFFFFFFFFFFF#64).x1 = true := ⟨rfl, by decide +kernel, by decide +kernel⟩

/-- The first clause of `ResetCalibrationIsTheIdentity`, at `-0.0`. -/
theorem witness_reset_calibration :
    let s := operands 0x8000000000000000#64 0#64
    s.seq = .idle ∧ s.calSlope = Sys2Proof.Spec.one ∧ s.calOffset = 0#64 ∧ fIsNaN s.x0 = false :=
  ⟨rfl, by decide +kernel, by decide +kernel, by decide +kernel⟩

/-- `NickelThresholdLookup`: one unit in the last place above 100 (V-N25). -/
theorem witness_unrecognised_reference :
    let r0 : F := 0x4059000000000001#64
    r0 ≠ Sys2Proof.Spec.hundred ∧ r0 ≠ Sys2Proof.Spec.fiveHundred ∧ r0 ≠ Sys2Proof.Spec.thousand := by decide +kernel

/-- `RoundingIsToNearestEven`: a tie between two numbers, and the one above it. -/
theorem witness_rounding :
    (0 : Nat) < 2 ∧ roundMag 5 2 < infMag ∧ (3 : Nat) < infMag ∧ 3 ≠ roundMag 5 2 ∧ roundMag 5 2 = 2 := by
  decide +kernel

/-- `OverflowThreshold`: the least overflowing amount, and one unit below it. -/
theorem witness_overflow :
    (0 : Nat) < 1 ∧ roundMag ((2 ^ 54 - 1) * 2 ^ 2044) 1 = infMag ∧
      roundMag ((2 ^ 54 - 1) * 2 ^ 2044 - 1) 1 ≠ infMag := by decide +kernel

/-- `ArithmeticIsCorrectlyRounded`: numbers on which every operation gives a number, and a pair whose product lies above
the overflow bound (both clauses of `roundsTo`). -/
theorem witness_arithmetic :
    let a := Sys2Proof.Spec.hundred
    let b := Sys2Proof.Spec.kCopper
    let c : F := 0x7FE0000000000000#64
    magOf a < infMag ∧ magOf b < infMag ∧ magOf b ≠ 0 ∧ magOf (fAdd a b) < infMag ∧ magOf (fSub a b) < infMag ∧
      magOf (fMul a b) < infMag ∧ magOf (fDiv a b) < infMag ∧ magOf c < infMag ∧
      (2 ^ 54 - 1) * 2 ^ 2044 * 2 ^ 1074 ≤ unitsOf (magOf c) * unitsOf (magOf c) := by decide +kernel

/-- `ArithmeticIsCorrectlyRounded`: a zero divisor, for a number and for a zero. -/
theorem witness_zero_divisor :
    magOf Sys2Proof.Spec.one < infMag ∧ magOf Sys2Proof.Spec.one ≠ 0 ∧ magOf (0#64 : F) < infMag ∧
      magOf (0x8000000000000000#64 : F) = 0 := by decide

/-- `ArithmeticIsCorrectlyRounded`: an infinity with a number, with a zero, with an infinity of each sign; a NaN. -/
theorem witness_infinite_operands :
    let a := Sys2Proof.Spec.infinity false
    magOf a = infMag ∧ magOf Sys2Proof.Spec.two < infMag ∧ magOf Sys2Proof.Spec.two ≠ 0 ∧ magOf (0#64 : F) = 0 ∧
      (∀ neg, magOf (Sys2Proof.Spec.infinity neg) = infMag ∧ negOf (Sys2Proof.Spec.infinity neg) = neg) ∧
      negOf a = false ∧ fIsNaN (0x7FF0000000000001#64 : F) = true := by decide

/-- `SquareRootIsCorrectlyRounded`: a number above zero, both zeros, a number below, both infinities, a NaN. -/
theorem witness_square_root :
    (magOf Sys2Proof.Spec.two < infMag ∧ negOf Sys2Proof.Spec.two = false) ∧
      (∀ neg, magOf (Sys2Proof.Spec.zero neg) = 0 ∧ magOf (Sys2Proof.Spec.zero neg) < infMag) ∧
      (negOf (0xC000000000000000#64 : F) = true ∧ magOf (0xC000000000000000#64 : F) ≠ 0) ∧
      (magOf (Sys2Proof.Spec.infinity false) = infMag ∧ negOf (Sys2Proof.Spec.infinity false) = false) ∧
      (magOf (Sys2Proof.Spec.infinity true) ≠ 0 ∧ negOf (Sys2Proof.Spec.infinity true) = true) ∧
      fIsNaN (0x7FF8000000000000#64 : F) = true := by decide

/-- The roots of the zeros and of `+inf` (rule R116). -/
theorem test_sqrt_keeps_zeros :
    fSqrt 0x8000000000000000#64 = 0x8000000000000000#64 ∧ fSqrt 0#64 = 0#64 ∧
      fSqrt 0x7FF0000000000000#64 = 0x7FF0000000000000#64 := by decide +kernel

/-- `ComparisonsCompareTheNumbers`: two numbers, an infinity of each sign with a number and with itself, and a NaN. -/
theorem witness_comparison :
    magOf (0x8000000000000000#64 : F) < infMag ∧ magOf (0#64 : F) < infMag ∧
      (∀ neg, magOf (Sys2Proof.Spec.infinity neg) = infMag ∧ negOf (Sys2Proof.Spec.infinity neg) = neg ∧
        fIsNaN (Sys2Proof.Spec.infinity neg) = false) ∧
      fIsNaN Sys2Proof.Spec.two = false ∧ fIsNaN (0x7FF8000000000000#64 : F) = true := by decide

/-- `SpecialOperandsOfForwardConversions`: the default table has the usual signs. -/
theorem witness_usual_signs : Sys2Proof.Spec.usualSigns State.reset.params.k := by
  unfold Sys2Proof.Spec.usualSigns Sys2Proof.Spec.finite
  decide +kernel

/-- `SpecialOperandsOfForwardConversions`: `0/0`; an infinite `R` of either sign over a number; a number of either sign
over `+0.0`. -/
theorem witness_special_operands :
    fIsNaN (fDiv 0#64 0#64) = true ∧
      (∀ neg, magOf (Sys2Proof.Spec.infinity neg) = infMag ∧ negOf (Sys2Proof.Spec.infinity neg) = neg) ∧
      (magOf Sys2Proof.Spec.hundred < infMag ∧ negOf Sys2Proof.Spec.hundred = false) ∧
      (magOf (0x4014000000000000#64 : F) < infMag ∧ magOf (0x4014000000000000#64 : F) ≠ 0) ∧
      (magOf (0xC014000000000000#64 : F) < infMag ∧ magOf (0xC014000000000000#64 : F) ≠ 0) ∧
      negOf (0#64 : F) = false ∧ magOf (0#64 : F) = 0 := by decide +kernel

/-- Rule R120's two examples: `R2T.PT385` of 50 over 0 is NaN; copper's stands above (V-C11). -/
theorem test_r2t_pt385_zero_reference :
    (after .r2tPt385 (operands 0x4049000000000000#64 0#64)).map (fun t => fIsNaN t.x2) = some true := by
  show some (fIsNaN (settle _ _)) = some true
  rw [fIsNaN_settle]
  decide +kernel

/-- `MemReadTransaction` and the failed transmit of `RdcfgReadsOneByte` and `AcqFailurePaths`. -/
theorem witness_transmit_fails :
    let s := answered [broken .timeout]
    s.seq = .idle ∧ Sys2Proof.Spec.firstTx s = .fail .timeout := ⟨rfl, rfl⟩

/-- `MemReadTransaction`: a receive of no byte and one of seven. -/
theorem witness_read_succeeds :
    Sys2Proof.Spec.firstTx (answered [ack, data []]) = .ok ∧
      (memRead 0x01#8 0 (answered [ack, data []])).1 = .ok [] ∧
      (memRead 0x01#8 7 (answered [ack, data cleanFrame])).1 = .ok cleanFrame := by decide +kernel

/-- `RdcfgReadsOneByte`: the byte arrives. -/
theorem witness_rdcfg_ok :
    let s := answered [ack, data [0xA5#8]]
    s.seq = .idle ∧ Sys2Proof.Spec.firstTx s = .ok ∧ Sys2Proof.Spec.secondRx 1 s = .ok [0xA5#8] := ⟨rfl, rfl, rfl⟩

/-- `RdcfgReadsOneByte`: the receive fails. -/
theorem witness_rdcfg_receive_fails :
    let s := answered [ack, broken .error]
    s.seq = .idle ∧ Sys2Proof.Spec.firstTx s = .ok ∧ Sys2Proof.Spec.secondRx 1 s = .fail .error := ⟨rfl, rfl, rfl⟩

/-- `CleanFrameIsDelivered`. -/
theorem witness_clean_frame :
    let s := answered [ack, data cleanFrame]
    s.seq = .idle ∧ Sys2Proof.Spec.firstTx s = .ok ∧ Sys2Proof.Spec.secondRx 7 s = .ok cleanFrame := ⟨rfl, rfl, rfl⟩

/-- `FaultedFrameIsRecoveredOnceAndDelivered`. -/
theorem witness_faulted_frame :
    let s := answered [ack, data faultFrame, ack]
    s.seq = .idle ∧ Sys2Proof.Spec.firstTx s = .ok ∧ Sys2Proof.Spec.secondRx 7 s = .ok faultFrame ∧
      (0x04#8 : Byte) ≠ 0#8 ∧ Sys2Proof.Spec.thirdTx s = .ok := ⟨rfl, rfl, rfl, by decide, rfl⟩

/-- `AcqFailurePaths`: the receive fails. -/
theorem witness_receive_fails :
    let s := answered [ack, broken .error]
    s.seq = .idle ∧ Sys2Proof.Spec.firstTx s = .ok ∧ Sys2Proof.Spec.secondRx 7 s = .fail .error := ⟨rfl, rfl, rfl⟩

/-- `AcqFailurePaths`: the recovery write fails. -/
theorem witness_recovery_fails :
    let s := answered [ack, data faultFrame, broken .timeout]
    s.seq = .idle ∧ Sys2Proof.Spec.firstTx s = .ok ∧ Sys2Proof.Spec.secondRx 7 s = .ok faultFrame ∧
      (0x04#8 : Byte) ≠ 0#8 ∧ Sys2Proof.Spec.thirdTx s = .fail .timeout := ⟨rfl, rfl, rfl, by decide, rfl⟩

/-- `AcqTemperatureIsConvOfItsResistance`: an acquisition that delivered. -/
theorem witness_delivered :
    (after .acq (answered [ack, data cleanFrame])).map (fun t => t.err) = some false := by decide +kernel

/-- `PhaseSuccession` and `FaultStateMachine`: in every phase a tick of its operation answers a next state. -/
theorem witness_tick :
    ∀ p : Phase, ∀ w ∈ [(Phase.exec, 0x20#8), (.cfgTx, 0x50#8), (.rdTx, 0x40#8), (.rcTx, 0x60#8)],
      phaseOf .acq p = true ∨ phaseOf .rdcfg p = true ∨ p = w.1 →
        ∃ t, tick { State.reset with seq := p, cmd := w.2 } = .next t := by
  intro p w hw hp
  fin_cases hw <;> cases p <;> first | exact ⟨_, rfl⟩ | simp [phaseOf] at hp

/-- `FaultStateMachine`: `FAULT_DET` is entered from `DECODE` on a fault byte that is not zero. -/
theorem witness_fault_detected :
    let s := { State.reset with seq := .decode, cmd := 0x40#8, fb := { State.reset.fb with b6 := 0x80#8 } }
    ∃ t, tick s = .next t ∧ s.seq ≠ .faultDet ∧ t.seq = .faultDet := ⟨_, rfl, by decide, by decide⟩

/-- The invariant holds of a state of every phase that holds the line or handles a fault. -/
theorem witness_invariant_rdTx :
    Invariant { State.reset with seq := .rdTx, cmd := 0x40#8, cs := .asserted, trace := [.csAssert] } :=
  ⟨rfl, rfl, rfl, by decide, by decide, by decide, .inr ⟨.acq, rfl, rfl⟩⟩

theorem witness_invariant_recover :
    Invariant { State.reset with seq := .recover, cmd := 0x40#8, fault := true, fstat := 1#8 } :=
  ⟨rfl, rfl, rfl, by decide, by decide, by decide, .inr ⟨.acq, rfl, rfl⟩⟩

theorem witness_invariant_idle : Invariant (operands 1#64 2#64) ∧ (operands 1#64 2#64).seq = .idle :=
  ⟨⟨rfl, rfl, rfl, by decide, by decide, by decide, .inl rfl⟩, rfl⟩

/-- `StepKeepsTheInvariant`: a step from a state of the invariant. -/
theorem witness_step : ∃ t, step { State.reset with program := [.start 0x00#8] } = .next t := ⟨_, rfl⟩

/-- `OperandsAndConfigurationAreNeverWritten`, `EachStateHasItsOwnWriters`: every operation answers. -/
theorem witness_every_operation : ∀ i : Instr, ∃ t, exec i State.reset = .next t := fun i => ⟨_, exec_idle i rfl⟩

/-- `CalibrationTouchesTheTemperatureOnly`: both runs answer. -/
theorem witness_two_calibrations :
    ∀ i : Instr, (∃ t, exec i State.reset = .next t) ∧
      ∃ u, exec i { State.reset with calOffset := 1#64, calSlope := 2#64 } = .next u :=
  fun i => ⟨⟨_, exec_idle i rfl⟩, ⟨_, exec_idle i rfl⟩⟩

/-- `MissingRegistersAreRefused`, `WordIndexMap`: the least and the greatest index of each range, and 31, which a write
reaches and a read does not. -/
theorem witness_missing_indices :
    (10 : Nat) ≤ 10 ∧ (4 : Nat) ≤ 4 ∧ (3 : Nat) < 4 ∧ (9 : Nat) < 10 ∧ ((4 : Nat) ≤ 7 ∧ (7 : Nat) < 8 ∧ (7 : Nat) ≠ 31) ∧
      ((4 : Nat) ≤ 18 ∧ (18 : Nat) ≤ 18 ∧ (18 : Nat) ≠ 31) ∧ ((4 : Nat) ≤ 31 ∧ (18 : Nat) ≤ 31) := by decide

theorem test_command_port_is_not_read :
    perform (.wordRead 31) State.reset = .refused (.noSuchWord 31) := by rfl

end Sys2Proof.Tests
end

section
/-! PROOFS. A NaN operand makes every conversion a NaN (rules R10, R120; decision D6). Inside a tree the NaN that
an operation answers is `qnan`, which absorbs whatever it meets. -/

namespace Sys2Proof.Machine

@[simp] theorem fAdd_qnan_left (b : F) : fAdd qnan b = qnan := fAdd_nan_left b fIsNaN_qnan
@[simp] theorem fAdd_qnan_right (a : F) : fAdd a qnan = qnan := fAdd_nan_right a fIsNaN_qnan
@[simp] theorem fSub_qnan_left (b : F) : fSub qnan b = qnan := fSub_nan_left b fIsNaN_qnan
@[simp] theorem fSub_qnan_right (a : F) : fSub a qnan = qnan := fSub_nan_right a fIsNaN_qnan
@[simp] theorem fMul_qnan_left (b : F) : fMul qnan b = qnan := fMul_nan_left b fIsNaN_qnan
@[simp] theorem fMul_qnan_right (a : F) : fMul a qnan = qnan := fMul_nan_right a fIsNaN_qnan
@[simp] theorem fDiv_qnan_left (b : F) : fDiv qnan b = qnan := fDiv_nan_left b fIsNaN_qnan
@[simp] theorem fDiv_qnan_right (a : F) : fDiv a qnan = qnan := fDiv_nan_right a fIsNaN_qnan
@[simp] theorem fSqrt_qnan : fSqrt qnan = qnan := fSqrt_nan fIsNaN_qnan

theorem ratio_nan {r r0 : F} (h : fIsNaN r = true ∨ fIsNaN r0 = true) : ratio r r0 = qnan :=
  h.elim (fDiv_nan_left r0) (fDiv_nan_right r)

/-! ### The forward trees take the ratio in every branch -/

@[simp] theorem poly4_qnan (k : QuarticCoeffs) : poly4 k qnan = qnan := by simp [poly4]

@[simp] theorem poly3_qnan (k : CubicCoeffs) : poly3 k qnan = qnan := by simp [poly3]

@[simp] theorem qroot_qnan (a b : F) : qroot a b qnan = qnan := by simp [qroot, radicand]

theorem platinumTemp_nan (k : QuarticCoeffs) {r r0 : F} (h : fIsNaN r = true ∨ fIsNaN r0 = true) :
    platinumTemp k r r0 = qnan := by simp [platinumTemp, ratio_nan h]

theorem copperTemp_nan (k : QuarticCoeffs) {r r0 : F} (h : fIsNaN r = true ∨ fIsNaN r0 = true) :
    copperTemp k r r0 = qnan := by simp [copperTemp, ratio_nan h]

theorem nickelTemp_nan (k : CubicCoeffs) {r r0 : F} (h : fIsNaN r = true ∨ fIsNaN r0 = true) :
    nickelTemp k r r0 = qnan := by simp [nickelTemp, ratio_nan h]

/-! ### The inverse trees multiply `R0` by a polynomial of `T` in every branch -/

theorem quadForm_nan (a b : F) {t : F} (h : fIsNaN t = true) : quadForm a b t = qnan := by
  simp [quadForm, fMul_nan_right _ h]

theorem platinumOhms_nan (k : QuarticCoeffs) {t r0 : F} (h : fIsNaN t = true ∨ fIsNaN r0 = true) :
    platinumOhms k t r0 = qnan := by
  rcases h with ht | hr
  · simp [platinumOhms, quadForm_nan _ _ ht]
  · simp [platinumOhms, fMul_nan_left _ hr]

theorem copperOhms_nan (k : QuarticCoeffs) {t r0 : F} (h : fIsNaN t = true ∨ fIsNaN r0 = true) :
    copperOhms k t r0 = qnan := by
  rcases h with ht | hr
  · simp [copperOhms, fMul_nan_right _ ht]
  · simp [copperOhms, fMul_nan_left _ hr]

theorem nickelOhms_nan (k : CubicCoeffs) {t r0 : F} (h : fIsNaN t = true ∨ fIsNaN r0 = true) :
    nickelOhms k t r0 = qnan := by
  rcases h with ht | hr
  · simp [nickelOhms, quadForm_nan _ _ ht]
  · simp [nickelOhms, fMul_nan_left _ hr]

/-! ### The operations -/

/-- An operation that writes a NaN result completes with a NaN in `x[2]`, whichever NaN it is (decision D4). -/
theorem exec_writes_nan {i : Instr} {s : State} {v : F} (hs : s.seq = .idle) (he : effectOf i s = writeResult v s)
    (hv : v = qnan) : ∃ t, exec i s = .next t ∧ fIsNaN t.x2 = true := by
  refine ⟨_, exec_idle i hs, ?_⟩
  rw [he, writeResult_eq, fIsNaN_settle, hv, fIsNaN_qnan]

/-- Settles O24: each curve's forward and inverse tree absorbs a NaN operand. -/
theorem nanOperandsGiveNan : Obligations.NanOperandsGiveNan := by
  intro c s hs h
  cases c with
  | pt385 => exact ⟨exec_writes_nan hs rfl (platinumTemp_nan _ h), exec_writes_nan hs rfl (platinumOhms_nan _ h)⟩
  | pt391 => exact ⟨exec_writes_nan hs rfl (platinumTemp_nan _ h), exec_writes_nan hs rfl (platinumOhms_nan _ h)⟩
  | cu428 => exact ⟨exec_writes_nan hs rfl (copperTemp_nan _ h), exec_writes_nan hs rfl (copperOhms_nan _ h)⟩
  | ni617 => exact ⟨exec_writes_nan hs rfl (nickelTemp_nan _ h), exec_writes_nan hs rfl (nickelOhms_nan _ h)⟩

end Sys2Proof.Machine
end

section
/-! PROOFS. Rounding against the exact amount (rule R10, decisions D1, D5). `roundMag` picks one of the two patterns
around the exact quotient by the middle between them (`roundMag_picks`); such a pattern is a nearest one with ties to
even among ALL patterns, the ones past the range included (`Picks.nearestEven`), and the answer is that pattern or, past
the range, the infinity (`RoundsMag`). Amounts are taken in an ordered field, so that rationals and reals share the
lemmas. -/

namespace Sys2Proof.Machine

/-! ### Patterns and amounts -/

theorem unitsOf_strictMono : StrictMono unitsOf := fun _ _ => unitsOf_lt

@[simp] theorem unitsOf_zero : unitsOf 0 = 0 := by decide

/-- The last bit of a pattern is the last bit of its significand. -/
theorem pattern_mod_two (sh t : Nat) : (sh * 2 ^ 52 + t) % 2 = t % 2 := by
  have h : (2 : Nat) ^ 52 = 2 ^ 51 * 2 := by decide
  rw [h, ← mul_assoc, Nat.mul_add_mod_self_right]

/-- The next pattern counts one unit in the last place more. -/
theorem unitsOf_significand_succ {sh t : Nat} (ht : t < 2 ^ 53) (hs : sh = 0 ∨ 2 ^ 52 ≤ t) :
    unitsOf (sh * 2 ^ 52 + t + 1) = (t + 1) * 2 ^ sh := by
  rw [Nat.add_assoc, unitsOf_significand (Nat.succ_le_of_lt ht) (hs.imp_right Nat.le_succ_of_le)]

/-- A pattern from binade `k + 1` on counts a multiple of `2^k` units. -/
theorem two_pow_dvd_unitsOf {k m : Nat} (h : (k + 1) * 2 ^ 52 ≤ m) : 2 ^ k ∣ unitsOf m := by
  obtain ⟨sh, t, rfl, ht, hs⟩ := pattern_parts m
  rw [unitsOf_significand ht.le hs]
  exact Dvd.dvd.mul_left (pow_dvd_pow 2 (by omega)) t

/-- Half a unit in the last place above the greatest number, in units (decision D5). -/
def overflowUnits : Nat := (2 ^ 54 - 1) * 2 ^ 2044

/-- It is the middle between the greatest number and the infinity's pattern. -/
theorem unitsOf_add_unitsOf_infMag : unitsOf (infMag - 1) + unitsOf infMag = 2 * overflowUnits := by
  have hlast : infMag - 1 = 2045 * 2 ^ 52 + (2 ^ 53 - 1) := by decide
  have hinf : infMag = 2045 * 2 ^ 52 + 2 ^ 53 := by decide
  have hsum : ∀ sh e : Nat, sh = e + 1 →
      (2 ^ 53 - 1) * 2 ^ sh + 2 ^ 53 * 2 ^ sh = 2 * ((2 ^ 54 - 1) * 2 ^ e) := fun sh e h => by
    rw [h, pow_succ 2 e]
    omega
  rw [hlast, hinf, unitsOf_significand (Nat.sub_le _ 1) (.inr (by decide)),
    unitsOf_significand le_rfl (.inr (by decide)), overflowUnits]
  exact hsum 2045 2044 rfl

section
variable {K : Type*} [Field K] [LinearOrder K] [IsStrictOrderedRing K]

/-- `x` lies between patterns `p` and `p + 1`, and `r` is the one on its side of the middle, the even one on it. -/
structure Picks (x : K) (p r : Nat) : Prop where
  low : (unitsOf p : K) ≤ x
  high : x ≤ unitsOf (p + 1)
  side : (r = p ∧ 2 * x ≤ unitsOf p + unitsOf (p + 1)) ∨
    (r = p + 1 ∧ (unitsOf p + unitsOf (p + 1) : K) ≤ 2 * x)
  tie : 2 * x = unitsOf p + unitsOf (p + 1) → r % 2 = 0

/-- `r` is a pattern nearest to `x` among all patterns, even where another is as near. -/
structure NearestEven (x : K) (r : Nat) : Prop where
  nearest : ∀ j : Nat, |(unitsOf r : K) - x| ≤ |(unitsOf j : K) - x|
  even_of_tie : ∀ j : Nat, j ≠ r → |(unitsOf r : K) - x| = |(unitsOf j : K) - x| → r % 2 = 0

theorem unitsOf_cast_le {i j : Nat} (h : i ≤ j) : (unitsOf i : K) ≤ unitsOf j :=
  Nat.cast_le.mpr (unitsOf_strictMono.monotone h)

theorem unitsOf_cast_lt {i j : Nat} (h : i < j) : (unitsOf i : K) < unitsOf j := Nat.cast_lt.mpr (unitsOf_lt h)

/-- Every pattern is at one of the two around `x` or beyond it, and so no nearer to `x`. -/
theorem neighbour_le_abs_sub {x : K} {p : Nat} (j : Nat) :
    (j ≤ p ∧ x - unitsOf p ≤ x - unitsOf j ∧ x - unitsOf j ≤ |(unitsOf j : K) - x|) ∨
      (p + 1 ≤ j ∧ unitsOf (p + 1) - x ≤ unitsOf j - x ∧ unitsOf j - x ≤ |(unitsOf j : K) - x|) := by
  rcases Nat.lt_or_ge p j with hj | hj
  · exact .inr ⟨hj, sub_le_sub_right (unitsOf_cast_le hj) x, le_abs_self _⟩
  · exact .inl ⟨hj, sub_le_sub_left (unitsOf_cast_le hj) x, neg_sub (unitsOf j : K) x ▸ neg_le_abs _⟩

theorem Picks.nearestEven {x : K} {p r : Nat} (h : Picks x p r) : NearestEven x r := by
  obtain ⟨low, high, side, tie⟩ := h
  rcases side with ⟨rfl, hmid⟩ | ⟨rfl, hmid⟩
  · have hr : |(unitsOf r : K) - x| = x - unitsOf r := by rw [abs_sub_comm, abs_of_nonneg (sub_nonneg.mpr low)]
    constructor
    · intro j
      rcases neighbour_le_abs_sub (x := x) (p := r) j with ⟨-, h1, h2⟩ | ⟨-, h1, h2⟩ <;> linarith
    · intro j hne heq
      rcases neighbour_le_abs_sub (x := x) (p := r) j with ⟨hj, -, h2⟩ | ⟨-, h1, h2⟩
      · have hlt : (unitsOf j : K) < unitsOf r := unitsOf_cast_lt (lt_of_le_of_ne hj hne)
        linarith
      · exact tie (by linarith)
  · have hr : |(unitsOf (p + 1) : K) - x| = unitsOf (p + 1) - x := abs_of_nonneg (sub_nonneg.mpr high)
    constructor
    · intro j
      rcases neighbour_le_abs_sub (x := x) (p := p) j with ⟨-, h1, h2⟩ | ⟨-, h1, h2⟩ <;> linarith
    · intro j hne heq
      rcases neighbour_le_abs_sub (x := x) (p := p) j with ⟨-, h1, h2⟩ | ⟨hj, -, h2⟩
      · exact tie (by linarith)
      · have hlt : (unitsOf (p + 1) : K) < unitsOf j := unitsOf_cast_lt (lt_of_le_of_ne hj hne.symm)
        linarith

theorem nearestEven_zero : NearestEven (0 : K) 0 := by
  have h : Picks (0 : K) 0 0 := ⟨by simp, Nat.cast_nonneg _, .inl ⟨rfl, by simp⟩, fun _ => rfl⟩
  exact h.nearestEven

/-- A pattern nearest to `x` lies past the range exactly from the overflow bound on: the greatest number's last bit
is 1, so the middle above it belongs to the infinity. -/
theorem NearestEven.infMag_le_iff {x : K} {r : Nat} (h : NearestEven x r) :
    infMag ≤ r ↔ (overflowUnits : K) ≤ x := by
  have hmid : (unitsOf (infMag - 1) : K) + unitsOf infMag = 2 * overflowUnits := by
    exact_mod_cast congrArg (Nat.cast (R := K)) unitsOf_add_unitsOf_infMag
  have hlast : (unitsOf (infMag - 1) : K) < unitsOf infMag := unitsOf_cast_lt (by decide)
  constructor
  · intro hr
    by_contra hx
    have hr : (unitsOf infMag : K) ≤ unitsOf r := unitsOf_cast_le hr
    have hcloser : |(unitsOf (infMag - 1) : K) - x| < unitsOf r - x := abs_lt.mpr ⟨by linarith, by linarith⟩
    have hn := (h.nearest (infMag - 1)).trans_lt hcloser
    exact absurd (le_abs_self _) (not_le.mpr hn)
  · intro hx
    by_contra hr
    have hcloser : |(unitsOf infMag : K) - x| ≤ x - unitsOf (infMag - 1) := abs_le.mpr ⟨by linarith, by linarith⟩
    have hfar : x - unitsOf r ≤ |(unitsOf r : K) - x| := by
      rw [abs_sub_comm]
      exact le_abs_self _
    obtain rfl | hr : r = infMag - 1 ∨ r < infMag - 1 := by omega
    · have htie := h.even_of_tie infMag (by decide) (le_antisymm (h.nearest infMag) (hcloser.trans hfar))
      exact absurd htie (by decide)
    · have hr : (unitsOf r : K) < unitsOf (infMag - 1) := unitsOf_cast_lt hr
      linarith [h.nearest infMag]

/-- `m` is the magnitude of `x` rounded once: a nearest pattern, or past the range the infinity. -/
def RoundsMag (x : K) (m : Nat) : Prop := ∃ r, NearestEven x r ∧ m = min r infMag

omit [IsStrictOrderedRing K] in
theorem RoundsMag.nearestEven {x : K} {m : Nat} (h : RoundsMag x m) (hm : m < infMag) : NearestEven x m := by
  obtain ⟨r, hr, rfl⟩ := h
  rwa [min_eq_left (by omega)]

theorem RoundsMag.eq_infMag_iff {x : K} {m : Nat} (h : RoundsMag x m) : m = infMag ↔ (overflowUnits : K) ≤ x := by
  obtain ⟨r, hr, rfl⟩ := h
  rw [min_eq_right_iff, hr.infMag_le_iff]

/-! ### The model's rounding -/

/-- Rounding goes up from the half on, and on the half to the even side. -/
theorem roundsUp_cases (t r q : Nat) :
    (roundsUp t r q = 0 ∧ 2 * r ≤ q ∧ (2 * r = q → t % 2 = 0)) ∨
      (roundsUp t r q = 1 ∧ q ≤ 2 * r ∧ (2 * r = q → t % 2 = 1)) := by
  unfold roundsUp
  split
  · right; omega
  · left; omega

/-- Where `x` lies `e` above pattern `p` and the next pattern lies `u` above it, a remainder that stands to its divisor
as `e` to `u` tells which of the two to pick. -/
theorem picks_add_roundsUp {x e u : K} {p t rem q : Nat} (hx : x = unitsOf p + e)
    (hu : (unitsOf (p + 1) : K) = unitsOf p + u) (he : 0 ≤ e) (heu : e ≤ u) (hle : 2 * rem ≤ q ↔ 2 * e ≤ u)
    (hge : q ≤ 2 * rem ↔ u ≤ 2 * e) (hpar : p % 2 = t % 2) : Picks x p (p + roundsUp t rem q) := by
  rcases roundsUp_cases t rem q with ⟨hup, hside, htie⟩ | ⟨hup, hside, htie⟩ <;> rw [hup]
  · refine ⟨by linarith, by linarith, .inl ⟨rfl, by linarith [hle.mp hside]⟩, fun h => ?_⟩
    have h := htie (le_antisymm hside (hge.mpr (by linarith)))
    omega
  · refine ⟨by linarith, by linarith, .inr ⟨rfl, by linarith [hge.mp hside]⟩, fun h => ?_⟩
    have h := htie (le_antisymm (hle.mpr (by linarith)) hside)
    omega

/-- The model's rounding picks between the two patterns around the quotient. -/
theorem roundMag_picks (n : Nat) {d : Nat} (hd : 0 < d) :
    ∃ p r, Picks ((n : K) / d) p r ∧ roundMag n d = min r infMag := by
  obtain ⟨sh, t, ht, hs, hquot, hround⟩ := roundMag_parts n d
  have hdK : (0 : K) < d := Nat.cast_pos.mpr hd
  have hdiv : d * 2 ^ sh * t + n % (d * 2 ^ sh) = n := hquot ▸ Nat.div_add_mod n _
  have hrem : n % (d * 2 ^ sh) < d * 2 ^ sh := Nat.mod_lt _ (by positivity)
  generalize n % (d * 2 ^ sh) = rem at hround hdiv hrem
  rw [← Nat.add_assoc] at hround
  have he : (0 : K) ≤ rem / d := by positivity
  refine ⟨_, _, picks_add_roundsUp (u := 2 ^ sh) ?_ ?_ he ?_ ?_ ?_ (pattern_mod_two sh t), hround⟩
  · rw [unitsOf_significand ht.le hs, ← hdiv]
    push_cast
    field_simp
  · rw [unitsOf_significand_succ ht hs, unitsOf_significand ht.le hs]
    push_cast
    ring
  · rw [div_le_iff₀' hdK]
    exact_mod_cast hrem.le
  · rw [mul_div_assoc', div_le_iff₀' hdK]
    exact_mod_cast Iff.rfl
  · rw [mul_div_assoc', le_div_iff₀' hdK]
    exact_mod_cast Iff.rfl

theorem roundsMag_roundMag (n : Nat) {d : Nat} (hd : 0 < d) : RoundsMag ((n : K) / d) (roundMag n d) := by
  obtain ⟨p, r, hp, hr⟩ := roundMag_picks (K := K) n hd
  exact ⟨r, hp.nearestEven, hr⟩

end

/-- The distance of a pattern from `n / d` units, in `d`-ths of a unit. -/
theorem abs_unitsOf_mul_sub (m n : Nat) {d : Nat} (hd : 0 < d) :
    ((|(unitsOf m * d : ℤ) - n| : ℤ) : ℚ) = |(unitsOf m : ℚ) - n / d| * d := by
  have hdQ : (0 : ℚ) < d := Nat.cast_pos.mpr hd
  rw [← abs_of_pos hdQ, ← abs_mul, sub_mul, abs_of_pos hdQ, div_mul_cancel₀ _ hdQ.ne']
  push_cast
  rfl

/-- Settles O29: below the range the rounded pattern is a nearest one, ties to even. -/
theorem roundingIsToNearestEven : Obligations.RoundingIsToNearestEven := by
  intro n d hd hfin m _
  have hdQ : (0 : ℚ) < d := Nat.cast_pos.mpr hd
  obtain ⟨hnear, heven⟩ := (roundsMag_roundMag (K := ℚ) n hd).nearestEven hfin
  have hdist := fun j => abs_unitsOf_mul_sub j n hd
  constructor
  · rw [← Int.cast_le (R := ℚ), hdist, hdist]
    exact mul_le_mul_of_nonneg_right (hnear m) hdQ.le
  · intro hne heq
    rw [← Int.cast_inj (α := ℚ), hdist, hdist] at heq
    exact heven m hne (mul_right_cancel₀ hdQ.ne' heq)

/-- Settles O30: the infinity begins at the middle above the greatest number. -/
theorem overflowThreshold : Obligations.OverflowThreshold := by
  intro n d hd
  have hdQ : (0 : ℚ) < d := Nat.cast_pos.mpr hd
  rw [(roundsMag_roundMag (K := ℚ) n hd).eq_infMag_iff, le_div_iff₀ hdQ, ← Nat.cast_mul, Nat.cast_le,
    overflowUnits]

end Sys2Proof.Machine
end

section
/-! PROOFS. Signs and values: the parts of a number's negative, a number's value as its sign times its amount, and what
comparing patterns says of the values (rules R10, R117; decision D6). -/

namespace Sys2Proof.Machine

open Sys2Proof.Spec

/-! ### The sign turned around -/

theorem negOf_eq_msb (a : F) : negOf a = a.msb := by rw [negOf, BitVec.msb_eq_decide]

@[simp] theorem negOf_fNeg (a : F) : negOf (fNeg a) = !negOf a := by
  have htop : (0x8000000000000000#64).msb = true := by decide
  rw [negOf_eq_msb, negOf_eq_msb, fNeg, BitVec.msb_xor, htop, Bool.xor_true]

/-- A pattern is known by its sign and its magnitude. -/
theorem eq_of_sign_mag {a b : F} (hs : negOf a = negOf b) (hm : magOf a = magOf b) : a = b := by
  rw [← pack_sign_mag a, ← pack_sign_mag b, hs, hm]

theorem infinity_eq_pack (neg : Bool) : infinity neg = pack neg infMag := by cases neg <;> decide

theorem zero_eq_pack (neg : Bool) : zero neg = pack neg 0 := by cases neg <;> decide

/-! ### Classes of patterns -/

theorem fIsNaN_of_finite {a : F} (h : finite a) : fIsNaN a = false := decide_eq_false (not_lt.mpr h.le)

theorem fIsInf_of_finite {a : F} (h : finite a) : fIsInf a = false := beq_false_of_ne h.ne

theorem fIsNaN_of_infinite {a : F} (h : infinite a) : fIsNaN a = false := decide_eq_false (not_lt.mpr h.le)

theorem fIsInf_of_infinite {a : F} (h : infinite a) : fIsInf a = true := beq_of_eq h

theorem magOf_le_of_not_nan {a : F} (h : fIsNaN a = false) : magOf a ≤ infMag := not_lt.mp (of_decide_eq_false h)

theorem finite_of_magOf_zero {a : F} (h : magOf a = 0) : finite a := by
  rw [finite, h]
  decide

theorem finite_fNeg {a : F} (h : finite a) : finite (fNeg a) := by rwa [finite, magOf_fNeg]

theorem infinite_fNeg {a : F} (h : infinite a) : infinite (fNeg a) := by rwa [infinite, magOf_fNeg]

/-! ### Values -/

@[simp] theorem signedUnits_fNeg (a : F) : signedUnits (fNeg a) = -signedUnits a := by
  unfold signedUnits
  cases h : negOf a <;> simp [h]

theorem value_fNeg (a : F) : value (fNeg a) = -value a := by
  rw [value, value, signedUnits_fNeg, Int.cast_neg, neg_div]

theorem value_lt_iff (a b : F) : value a < value b ↔ signedUnits a < signedUnits b := by
  rw [value, value, div_lt_div_iff_of_pos_right (by positivity), Int.cast_lt]

theorem value_inj_iff (a b : F) : value a = value b ↔ signedUnits a = signedUnits b := by
  rw [value, value, div_left_inj' (by positivity), Int.cast_inj]

/-! ### Comparisons -/

/-- The order of the keys is the order of the amounts, both being odd in the sign and increasing in the magnitude. -/
theorem orderKey_lt_iff (a b : F) : orderKey a < orderKey b ↔ signedUnits a < signedUnits b := by
  have hmono : ∀ i j, unitsOf i < unitsOf j ↔ i < j := fun _ _ => unitsOf_strictMono.lt_iff_lt
  have hpos : ∀ i, 0 < unitsOf i ↔ 0 < i := fun i => by simpa using hmono 0 i
  unfold orderKey signedUnits
  cases negOf a <;> cases negOf b <;> simp only [if_true, Bool.false_eq_true, if_false]
  · exact_mod_cast (hmono _ _).symm
  · omega
  · have ha := hpos (magOf a)
    have hb := hpos (magOf b)
    omega
  · rw [neg_lt_neg_iff, neg_lt_neg_iff]
    exact_mod_cast (hmono _ _).symm

theorem orderKey_eq_iff (a b : F) : orderKey a = orderKey b ↔ signedUnits a = signedUnits b := by
  have h1 := orderKey_lt_iff a b
  have h2 := orderKey_lt_iff b a
  omega

theorem fLt_iff {a b : F} (ha : fIsNaN a = false) (hb : fIsNaN b = false) :
    fLt a b = true ↔ orderKey a < orderKey b := by simp [fLt, ha, hb]

theorem fEq_iff {a b : F} (ha : fIsNaN a = false) (hb : fIsNaN b = false) :
    fEq a b = true ↔ orderKey a = orderKey b := by simp [fEq, ha, hb]

/-- Only zeros share a key without being the same pattern. -/
theorem eq_of_orderKey_eq {a b : F} (h : orderKey a = orderKey b) (hb : magOf b ≠ 0) : a = b := by
  unfold orderKey at h
  cases ha : negOf a <;> cases hb' : negOf b <;> simp only [ha, hb', if_true, Bool.false_eq_true, if_false] at h
  · exact eq_of_sign_mag (ha.trans hb'.symm) (by omega)
  · omega
  · omega
  · exact eq_of_sign_mag (ha.trans hb'.symm) (by omega)

/-- The keys of the infinities bound all others. -/
theorem orderKey_bounds {a : F} (h : fIsNaN a = false) : -(infMag : Int) ≤ orderKey a ∧ orderKey a ≤ infMag := by
  have hm := magOf_le_of_not_nan h
  unfold orderKey
  split <;> omega

theorem orderKey_infinite {b : F} (h : infinite b) : orderKey b = if negOf b then -(infMag : Int) else infMag := by
  rw [orderKey, h]

/-- Settles O33: keys are ordered as values, and the keys of the infinities stand at the ends. -/
theorem comparisonsCompareTheNumbers : Obligations.ComparisonsCompareTheNumbers := by
  intro a b
  refine ⟨fun ha hb => ?_, fun ha hb => ?_, ?_⟩
  · have ha' := fIsNaN_of_finite ha
    have hb' := fIsNaN_of_finite hb
    rw [fLt_iff ha' hb', fEq_iff ha' hb', value_lt_iff, value_inj_iff]
    exact ⟨orderKey_lt_iff a b, orderKey_eq_iff a b⟩
  · have hb' := fIsNaN_of_infinite hb
    have hkey := orderKey_infinite hb
    have hbound := orderKey_bounds ha
    have heq : orderKey a = orderKey b ↔ a = b := by
      refine ⟨fun h => eq_of_orderKey_eq h ?_, fun h => congrArg orderKey h⟩
      rw [hb]
      decide
    refine ⟨fun hs => ?_, fun hs => ?_, ?_, ?_⟩
    · rw [hs] at hkey
      rw [fLt_iff ha hb', ← Bool.not_eq_true, fLt_iff hb' ha, Ne, ← heq]
      simp only [Bool.false_eq_true, if_false] at hkey
      omega
    · rw [hs] at hkey
      rw [fLt_iff hb' ha, ← Bool.not_eq_true, fLt_iff ha hb', Ne, ← heq]
      simp only [if_true] at hkey
      omega
    · rw [fEq_iff ha hb', heq]
    · rw [fEq_iff hb' ha, eq_comm, heq]
  · rintro (h | h)
    · exact ⟨fLt_nan_left b h, fEq_nan_left b h⟩
    · exact ⟨fLt_nan_right a h, fEq_nan_right a h⟩

end Sys2Proof.Machine
end

section
/-! PROOFS. From amounts to values: a pattern whose magnitude rounds the absolute value and whose sign is the value's is
the value rounded once, and the four operations give such patterns (rules R10, R116, R120; decision D5). -/

namespace Sys2Proof.Machine

open Sys2Proof.Spec

/-- `x` with a sign. -/
def signed {K : Type*} [Neg K] (neg : Bool) (x : K) : K := if neg then -x else x

section
variable {K : Type*} [Field K]

theorem signed_xor_mul (s t : Bool) (x y : K) : signed (s != t) (x * y) = signed s x * signed t y := by
  cases s <;> cases t <;> simp [signed]

theorem signed_xor_div (s t : Bool) (x y : K) : signed (s != t) (x / y) = signed s x / signed t y := by
  cases s <;> cases t <;> simp [signed, neg_div, div_neg]

theorem signed_sub (s : Bool) (x y : K) : signed s (x - y) = signed s x - signed s y := by
  cases s <;> simp [signed, neg_add_eq_sub]

theorem signed_mul_left (s : Bool) (x y : K) : signed s (x * y) = signed s x * y := by
  cases s <;> simp [signed]

theorem cast_signedUnits (a : F) : (signedUnits a : K) = signed (negOf a) (unitsOf (magOf a) : K) := by
  unfold signedUnits signed
  split <;> simp

end

section
variable {K : Type*} [Field K] [LinearOrder K] [IsStrictOrderedRing K]

omit [IsStrictOrderedRing K] in
theorem abs_signed (s : Bool) (x : K) : |signed s x| = |x| := by
  cases s <;> simp [signed]

theorem abs_cast_signedUnits (a : F) : |(signedUnits a : K)| = unitsOf (magOf a) := by
  rw [cast_signedUnits, abs_signed, Nat.abs_cast]

/-- An amount nearest to an absolute value stays nearest when both take the sign of the value, and no amount of either
sign lies nearer. -/
theorem NearestEven.with_signs {y w z : K} {r j : Nat} (h : NearestEven |y| r) (hw : |w| = unitsOf r)
    (hwy : |w - y| = |(unitsOf r : K) - (|y|)|) (hz : |z| = unitsOf j) :
    |w - y| ≤ |z - y| ∧ (z ≠ w → |z - y| = |w - y| → r % 2 = 0) := by
  have hnear : |w - y| ≤ |(unitsOf j : K) - (|y|)| := hwy ▸ h.nearest j
  have hzy : |(unitsOf j : K) - (|y|)| ≤ |z - y| := hz ▸ abs_abs_sub_abs_le z y
  refine ⟨hnear.trans hzy, fun hne heq => ?_⟩
  refine h.even_of_tie j ?_ (hwy ▸ le_antisymm hnear (hzy.trans heq.le))
  rintro rfl
  have hneg : z = -w := (abs_eq_abs.mp (hz.trans hw.symm)).resolve_left hne
  have hy : y = 0 := by
    rcases abs_eq_abs.mp heq with h1 | h1
    · exact absurd (sub_left_injective h1) hne
    · linarith
  have hw0 : w = 0 := by
    have h0 := h.nearest 0
    rw [← hwy, hy] at h0
    simpa using h0
  exact hne (by rw [hneg, hw0, neg_zero])

theorem cast_value (a : F) : ((value a : ℚ) : K) = (signedUnits a : K) / 2 ^ 1074 := by
  rw [value]
  push_cast
  rfl

/-- The distance of a number from `x`, in units. -/
theorem abs_value_sub (a : F) (x : K) :
    |((value a : ℚ) : K) - x| = |(signedUnits a : K) - x * 2 ^ 1074| / 2 ^ 1074 := by
  have hT : (0 : K) < 2 ^ 1074 := by positivity
  rw [cast_value]
  generalize (2 : K) ^ 1074 = T at hT
  rw [div_sub' hT.ne', abs_div, abs_of_pos hT, mul_comm T]

/-- A number of the sign of `x` whose magnitude is nearest to the absolute value of `x` is a number nearest to `x`. -/
theorem value_nearest {x : K} {r : F} (hs : x = signed (negOf r) |x|) (h : NearestEven (|x| * 2 ^ 1074) (magOf r))
    (c : F) :
    |((value r : ℚ) : K) - x| ≤ |((value c : ℚ) : K) - x| ∧
      (value c ≠ value r → |((value c : ℚ) : K) - x| = |((value r : ℚ) : K) - x| → magOf r % 2 = 0) := by
  have hT : (0 : K) < 2 ^ 1074 := by positivity
  have hx : |x| * 2 ^ 1074 = |x * 2 ^ 1074| := by rw [abs_mul, abs_of_pos hT]
  have hrx : |(signedUnits r : K) - x * 2 ^ 1074| = |(unitsOf (magOf r) : K) - (|x * 2 ^ 1074|)| := by
    rw [← hx, cast_signedUnits]
    nth_rw 1 [hs]
    rw [← signed_mul_left, ← signed_sub, abs_signed]
  obtain ⟨hnear, htie⟩ := (hx ▸ h).with_signs (abs_cast_signedUnits r) hrx (abs_cast_signedUnits c)
  rw [abs_value_sub, abs_value_sub, div_le_div_iff_of_pos_right hT, div_left_inj' hT.ne']
  refine ⟨hnear, fun hne => htie fun heq => hne ?_⟩
  rw [value_inj_iff]
  exact_mod_cast heq

end

end Sys2Proof.Machine
end

section
/-! PROOFS. The four operations on numbers, zero divisors and infinities (rules R10, R116, R120; decision D5). -/

namespace Sys2Proof.Machine

open Sys2Proof.Spec

/-! ### Values and signs -/

theorem abs_value (a : F) : |value a| = (unitsOf (magOf a) : ℚ) / 2 ^ 1074 := by
  have hT : (0 : ℚ) < 2 ^ 1074 := by positivity
  rw [value, abs_div, abs_of_pos hT, abs_cast_signedUnits]

theorem value_eq_signed (a : F) : value a = signed (negOf a) |value a| := by
  rw [abs_value, div_eq_mul_inv, signed_mul_left, ← cast_signedUnits, ← div_eq_mul_inv, value]

theorem unitsOf_pos {m : Nat} (h : m ≠ 0) : 0 < unitsOf m := by
  simpa using unitsOf_lt (Nat.pos_of_ne_zero h)

theorem value_add (a b : F) : value a + value b = ((signedUnits a + signedUnits b : ℤ) : ℚ) / 2 ^ 1074 := by
  rw [value, value, ← add_div, Int.cast_add]

/-- The overflow bound in units. -/
theorem overflowBound_units : overflowBound * 2 ^ 1074 = (overflowUnits : ℚ) := by
  have hexp : 970 + 1074 = 2044 := rfl
  have hsig : ((2 ^ 54 - 1 : Nat) : ℚ) = 2 ^ 54 - 1 := by norm_num
  rw [overflowBound, overflowUnits, mul_assoc, ← pow_add, hexp, Nat.cast_mul, Nat.cast_pow, Nat.cast_ofNat, hsig]

theorem overflowBound_pos : 0 < overflowBound := mul_pos (by norm_num) (by positivity)

/-- A pattern whose magnitude rounds the absolute value of `x` and whose sign is the sign of `x` (either sign for a
zero) is `x` rounded once. -/
theorem roundsTo_of_mag_of_sign {r : F} {x : ℚ} (hm : RoundsMag (|x| * 2 ^ 1074) (magOf r))
    (hs : x = signed (negOf r) |x|) : roundsTo r x := by
  have hT : (0 : ℚ) < 2 ^ 1074 := by positivity
  have hinf : magOf r = infMag ↔ overflowBound ≤ |x| := by
    rw [hm.eq_infMag_iff, ← overflowBound_units, mul_le_mul_iff_left₀ hT]
  constructor
  · intro hx
    have hle : magOf r ≤ infMag := by
      obtain ⟨p, -, hp⟩ := hm
      omega
    have hfin : magOf r < infMag := lt_of_le_of_ne hle fun h => absurd hx (not_lt.mpr (hinf.mp h))
    have hnear := fun c => value_nearest hs (hm.nearestEven hfin) c
    simp only [Rat.cast_id] at hnear
    exact ⟨hfin, fun c _ => (hnear c).1, fun c _ => (hnear c).2⟩
  · intro hx
    refine ⟨hinf.mpr hx, ?_⟩
    have hpos : 0 < |x| := overflowBound_pos.trans_le hx
    rw [hs]
    cases negOf r
    · simp [signed]
    · simpa [signed] using hpos

/-! ### The operations on numbers -/

section
variable {a b : F} (ha : finite a) (hb : finite b)
include ha hb

theorem fAdd_finite :
    fAdd a b = if signedUnits a + signedUnits b = 0 then pack (negOf a && negOf b) 0
      else pack (decide (signedUnits a + signedUnits b < 0)) (roundMag (signedUnits a + signedUnits b).natAbs 1) := by
  unfold fAdd
  simp only [fIsNaN_of_finite ha, fIsNaN_of_finite hb, fIsInf_of_finite ha, fIsInf_of_finite hb, Bool.or_self,
    Bool.false_eq_true, if_false]

theorem fMul_finite :
    fMul a b = pack (negOf a != negOf b) (roundMag (unitsOf (magOf a) * unitsOf (magOf b)) (2 ^ 1074)) := by
  unfold fMul
  simp only [fIsNaN_of_finite ha, fIsNaN_of_finite hb, fIsInf_of_finite ha, fIsInf_of_finite hb, Bool.or_self,
    Bool.false_eq_true, if_false]

theorem fDiv_finite (h0 : magOf b ≠ 0) :
    fDiv a b = pack (negOf a != negOf b) (roundMag (unitsOf (magOf a) * 2 ^ 1074) (unitsOf (magOf b))) := by
  unfold fDiv
  simp only [fIsNaN_of_finite ha, fIsNaN_of_finite hb, fIsInf_of_finite ha, fIsInf_of_finite hb, Bool.or_self,
    Bool.false_eq_true, if_false, h0]

theorem negOf_fAdd :
    negOf (fAdd a b) = if value a + value b = 0 then negOf a && negOf b else decide (value a + value b < 0) := by
  have hT : (0 : ℚ) < 2 ^ 1074 := by positivity
  have hzero : value a + value b = 0 ↔ signedUnits a + signedUnits b = 0 := by
    rw [value_add, div_eq_zero_iff, or_iff_left hT.ne', Int.cast_eq_zero]
  have hneg : value a + value b < 0 ↔ signedUnits a + signedUnits b < 0 := by
    rw [value_add, div_lt_iff₀ hT, zero_mul, Int.cast_lt_zero]
  rw [fAdd_finite ha hb]
  simp only [hzero, hneg]
  split
  · exact negOf_pack _ (by decide)
  · exact negOf_pack _ (roundMag_lt _ _)

theorem roundsTo_fAdd : roundsTo (fAdd a b) (value a + value b) := by
  have hT : (0 : ℚ) < 2 ^ 1074 := by positivity
  refine roundsTo_of_mag_of_sign ?_ ?_
  · rw [value_add, abs_div, abs_of_pos hT, div_mul_cancel₀ _ hT.ne', fAdd_finite ha hb]
    split
    · next h =>
      rw [h, magOf_pack _ (by decide), Int.cast_zero, abs_zero]
      exact ⟨0, nearestEven_zero, rfl⟩
    · rw [magOf_pack _ (roundMag_lt _ _), ← Int.cast_abs, Int.abs_eq_natAbs]
      simpa using roundsMag_roundMag (K := ℚ) (signedUnits a + signedUnits b).natAbs one_pos
  · rw [negOf_fAdd ha hb]
    split
    · next h => simp [h, signed]
    · rcases lt_or_ge (value a + value b) 0 with h | h
      · simp [h, signed, abs_of_neg h]
      · simp [not_lt.mpr h, signed, abs_of_nonneg h]

theorem roundsTo_fMul : roundsTo (fMul a b) (value a * value b) := by
  have hT : (0 : ℚ) < 2 ^ 1074 := by positivity
  rw [fMul_finite ha hb]
  refine roundsTo_of_mag_of_sign ?_ ?_
  · rw [magOf_pack _ (roundMag_lt _ _)]
    have h := roundsMag_roundMag (K := ℚ) (unitsOf (magOf a) * unitsOf (magOf b)) (d := 2 ^ 1074) (by positivity)
    convert h using 1
    rw [abs_mul, abs_value, abs_value, Nat.cast_mul, Nat.cast_pow, Nat.cast_ofNat]
    generalize (2 : ℚ) ^ 1074 = T at hT ⊢
    field_simp
  · rw [negOf_pack _ (roundMag_lt _ _), abs_mul, signed_xor_mul, ← value_eq_signed, ← value_eq_signed]

theorem roundsTo_fDiv (h0 : magOf b ≠ 0) : roundsTo (fDiv a b) (value a / value b) := by
  have hT : (0 : ℚ) < 2 ^ 1074 := by positivity
  rw [fDiv_finite ha hb h0]
  refine roundsTo_of_mag_of_sign ?_ ?_
  · rw [magOf_pack _ (roundMag_lt _ _)]
    have h := roundsMag_roundMag (K := ℚ) (unitsOf (magOf a) * 2 ^ 1074) (unitsOf_pos h0)
    convert h using 1
    rw [abs_div, abs_value, abs_value, Nat.cast_mul, Nat.cast_pow, Nat.cast_ofNat]
    generalize (2 : ℚ) ^ 1074 = T at hT ⊢
    field_simp
  · rw [negOf_pack _ (roundMag_lt _ _), abs_div, signed_xor_div, ← value_eq_signed, ← value_eq_signed]

end

theorem numbersRound_of_finite {a b : F} (ha : finite a) (hb : finite b) : numbersRound a b := by
  refine ⟨roundsTo_fAdd ha hb, ?_, roundsTo_fMul ha hb, roundsTo_fDiv ha hb⟩
  rw [sub_eq_add_neg, ← value_fNeg]
  exact roundsTo_fAdd ha (finite_fNeg hb)

theorem numberSigns_of_finite {a b : F} (ha : finite a) (hb : finite b) : numberSigns a b := by
  refine ⟨negOf_fAdd ha hb, ?_, ?_, fun h0 => ?_⟩
  · rw [sub_eq_add_neg, ← value_fNeg, ← negOf_fNeg]
    exact negOf_fAdd ha (finite_fNeg hb)
  · rw [fMul_finite ha hb, negOf_pack _ (roundMag_lt _ _)]
  · rw [fDiv_finite ha hb h0, negOf_pack _ (roundMag_lt _ _)]

/-! ### Zero divisors and infinities -/

theorem eq_infinity {a : F} (h : infinite a) : a = infinity (negOf a) := by
  rw [infinity_eq_pack, ← h, pack_sign_mag]

theorem magOf_ne_zero_of_infinite {a : F} (h : infinite a) : magOf a ≠ 0 := by
  rw [h]
  decide

theorem fDiv_zero_divisor {a b : F} (ha : finite a) (hb : magOf b = 0) :
    fDiv a b = if magOf a = 0 then qnan else infinity (negOf a != negOf b) := by
  have hb' := finite_of_magOf_zero hb
  unfold fDiv
  simp only [fIsNaN_of_finite ha, fIsNaN_of_finite hb', fIsInf_of_finite ha, fIsInf_of_finite hb', Bool.or_self,
    Bool.false_eq_true, if_false, hb, if_true, infinity_eq_pack]

section
variable {a b : F} (ha : infinite a)
include ha

theorem fAdd_infinite_finite (hb : finite b) : fAdd a b = a := by
  simp [fAdd, fIsNaN_of_infinite ha, fIsNaN_of_finite hb, fIsInf_of_infinite ha, fIsInf_of_finite hb]

theorem fAdd_finite_infinite (hb : finite b) : fAdd b a = a := by
  simp [fAdd, fIsNaN_of_infinite ha, fIsNaN_of_finite hb, fIsInf_of_infinite ha, fIsInf_of_finite hb]

theorem fAdd_infinite (hb : infinite b) : fAdd a b = if negOf b = negOf a then a else qnan := by
  by_cases h : negOf b = negOf a
  · simp [fAdd, fIsNaN_of_infinite ha, fIsNaN_of_infinite hb, fIsInf_of_infinite ha, fIsInf_of_infinite hb, h]
  · simp [fAdd, fIsNaN_of_infinite ha, fIsNaN_of_infinite hb, fIsInf_of_infinite ha, fIsInf_of_infinite hb, h,
      Ne.symm h]

theorem fMul_infinite_left (hb : fIsNaN b = false) :
    fMul a b = if magOf b = 0 then qnan else infinity (negOf a != negOf b) := by
  simp [fMul, fIsNaN_of_infinite ha, hb, fIsInf_of_infinite ha, magOf_ne_zero_of_infinite ha, infinity_eq_pack]

theorem fMul_infinite_right (hb : fIsNaN b = false) :
    fMul b a = if magOf b = 0 then qnan else infinity (negOf b != negOf a) := by
  simp [fMul, fIsNaN_of_infinite ha, hb, fIsInf_of_infinite ha, magOf_ne_zero_of_infinite ha, infinity_eq_pack]

theorem fDiv_infinite_finite (hb : finite b) : fDiv a b = infinity (negOf a != negOf b) := by
  simp [fDiv, fIsNaN_of_infinite ha, fIsNaN_of_finite hb, fIsInf_of_infinite ha, fIsInf_of_finite hb,
    infinity_eq_pack]

theorem fDiv_infinite (hb : infinite b) : fDiv a b = qnan := by
  simp [fDiv, fIsInf_of_infinite ha, fIsInf_of_infinite hb]

theorem fDiv_finite_infinite (hb : finite b) : fDiv b a = zero (negOf b != negOf a) := by
  simp [fDiv, fIsNaN_of_infinite ha, fIsNaN_of_finite hb, fIsInf_of_infinite ha, fIsInf_of_finite hb, zero_eq_pack]

theorem infiniteSums_of_infinite : infiniteSums a b := by
  refine ⟨fun hb => ⟨fAdd_infinite_finite ha hb, fAdd_finite_infinite ha hb, ?_, ?_⟩, fun hb hs => ⟨?_, ?_⟩,
    fun hb hs => ⟨?_, ?_⟩⟩
  · exact fAdd_infinite_finite ha (finite_fNeg hb)
  · rw [fSub, fAdd_finite_infinite (infinite_fNeg ha) hb, eq_infinity (infinite_fNeg ha), negOf_fNeg]
  · rw [fAdd_infinite ha hb, if_pos hs]
  · rw [fSub, fAdd_infinite ha (infinite_fNeg hb), negOf_fNeg, hs, if_neg (by simp), fIsNaN_qnan]
  · rw [fAdd_infinite ha hb, hs, if_neg (by simp), fIsNaN_qnan]
  · rw [fSub, fAdd_infinite ha (infinite_fNeg hb), negOf_fNeg, hs, Bool.not_not, if_pos rfl]

theorem infiniteProducts_of_infinite : infiniteProducts a b := by
  refine ⟨fun hb h0 => ?_, fun h0 => ?_, fun hb => ⟨?_, ?_⟩, fun hb => ⟨fDiv_infinite_finite ha hb, ?_⟩⟩
  · have hn := fIsNaN_of_finite hb
    rw [fMul_infinite_left ha hn, fMul_infinite_right ha hn, if_neg h0, if_neg h0, bne_comm]
    exact ⟨rfl, rfl⟩
  · have hn := fIsNaN_of_finite (finite_of_magOf_zero h0)
    rw [fMul_infinite_left ha hn, fMul_infinite_right ha hn, if_pos h0, if_pos h0]
    exact ⟨fIsNaN_qnan, fIsNaN_qnan⟩
  · rw [fMul_infinite_left ha (fIsNaN_of_infinite hb), if_neg (magOf_ne_zero_of_infinite hb)]
  · rw [fDiv_infinite ha hb, fIsNaN_qnan]
  · rw [fDiv_finite_infinite ha hb, bne_comm]

end

/-- Settles O31, class by class of the operands. -/
theorem arithmeticIsCorrectlyRounded : Obligations.ArithmeticIsCorrectlyRounded := by
  intro a b
  refine ⟨fun ha hb => ⟨numbersRound_of_finite ha hb, numberSigns_of_finite ha hb⟩,
    fun ha hb => ⟨fun h0 => ?_, fun h0 => ?_⟩,
    fun ha => ⟨infiniteSums_of_infinite ha, infiniteProducts_of_infinite ha⟩, ?_⟩
  · rw [fDiv_zero_divisor ha hb, if_neg h0]
  · rw [fDiv_zero_divisor ha hb, if_pos h0, fIsNaN_qnan]
  · rintro (h | h)
    · simp only [fAdd_nan_left b h, fSub_nan_left b h, fMul_nan_left b h, fDiv_nan_left b h, fIsNaN_qnan, and_self]
    · simp only [fAdd_nan_right a h, fSub_nan_right a h, fMul_nan_right a h, fDiv_nan_right a h, fIsNaN_qnan, and_self]

end Sys2Proof.Machine
end

section
/-! PROOFS. The square root (rules R10, R116). The model rounds not the root itself but its leading 57 bits with one bit
more that says whether any are missing. No pattern's amount and no middle between two patterns parts that number from
the root (`stickyRoot_le_iff`, `le_stickyRoot_iff`), so both round alike (`Picks.of_same_grid_side`). -/

namespace Sys2Proof.Machine

open Sys2Proof.Spec

/-! ### Rounding needs to know the amount only against a grid -/

section
variable {K : Type*} [Field K] [LinearOrder K] [IsStrictOrderedRing K]

/-- Two amounts that lie alike against every multiple of `2^k` are rounded alike from binade `k + 2` on. -/
theorem Picks.of_same_grid_side {x y : K} {k p r : Nat} (h : Picks x p r) (hp : (k + 2) * 2 ^ 52 ≤ p)
    (hle : ∀ g : Nat, 2 ^ k ∣ g → ((g : K) ≤ x ↔ (g : K) ≤ y))
    (hge : ∀ g : Nat, 2 ^ k ∣ g → (x ≤ (g : K) ↔ y ≤ (g : K))) : Picks y p r := by
  obtain ⟨low, high, side, tie⟩ := h
  have hdvd : ∀ m, p ≤ m → 2 ^ (k + 1) ∣ unitsOf m := fun m hm => two_pow_dvd_unitsOf (hp.trans hm)
  have hgrid : ∀ m, p ≤ m → 2 ^ k ∣ unitsOf m := fun m hm => (pow_dvd_pow 2 k.le_succ).trans (hdvd m hm)
  obtain ⟨c, hc⟩ : 2 ^ (k + 1) ∣ unitsOf p + unitsOf (p + 1) := dvd_add (hdvd p le_rfl) (hdvd (p + 1) p.le_succ)
  have hmid : (unitsOf p : K) + unitsOf (p + 1) = 2 * ((2 ^ k * c : Nat) : K) := by
    rw [← Nat.cast_add, hc, pow_succ]
    push_cast
    ring
  have hlemid := hle (2 ^ k * c) (dvd_mul_right _ _)
  have hgemid := hge (2 ^ k * c) (dvd_mul_right _ _)
  have htwo : (0 : K) < 2 := two_pos
  rw [hmid] at side tie
  rw [mul_le_mul_iff_right₀ htwo, mul_le_mul_iff_right₀ htwo, hlemid, hgemid] at side
  refine ⟨(hle _ (hgrid p le_rfl)).mp low, (hge _ (hgrid _ p.le_succ)).mp high, ?_, ?_⟩
  · rwa [hmid, mul_le_mul_iff_right₀ htwo, mul_le_mul_iff_right₀ htwo]
  · intro h
    rw [hmid] at h
    have h := mul_left_cancel₀ htwo.ne' h
    exact tie (congrArg (2 * ·) (le_antisymm (hgemid.mpr h.le) (hlemid.mpr h.ge)))

end

/-! ### The leading bits of the root -/

/-- Twice the leading bits `r` of the root of `n`, which has `k` bits more, and one bit for what they leave out. -/
def stickyRoot (n k r : Nat) : Nat := (2 * r + (if r * r * 4 ^ k = n then 0 else 1)) * 2 ^ k

theorem sqrtMag_eq (u : Nat) :
    sqrtMag u = roundMag (stickyRoot (u * 2 ^ 1074) ((Nat.log2 (u * 2 ^ 1074) - 112) / 2)
      (sqrtDigits (u * 2 ^ 1074 / 4 ^ ((Nat.log2 (u * 2 ^ 1074) - 112) / 2)) 57 0)) 2 := rfl

theorem sq_grid (g k : Nat) : (g * 2 ^ k) ^ 2 = g * g * 4 ^ k := by
  have hfour : (4 : Nat) = 2 ^ 2 := rfl
  rw [mul_pow, ← pow_mul, mul_comm k 2, pow_mul, sq g, hfour]

section
variable {n k r : Nat} (hlo : r * r ≤ n / 4 ^ k) (hhi : n / 4 ^ k < (r + 1) * (r + 1))
include hlo hhi

theorem le_stickyRoot_iff (g : Nat) : g * 2 ^ k * 2 ≤ stickyRoot n k r ↔ (g * 2 ^ k) ^ 2 ≤ n := by
  have hk : 0 < 4 ^ k := by positivity
  have hroot : g * g ≤ n / 4 ^ k ↔ g ≤ r :=
    ⟨fun h => Nat.lt_succ_iff.mp (Nat.mul_self_lt_mul_self_iff.mp (h.trans_lt hhi)),
      fun h => (Nat.mul_self_le_mul_self h).trans hlo⟩
  rw [sq_grid, ← Nat.le_div_iff_mul_le hk, hroot, stickyRoot, mul_right_comm,
    Nat.mul_le_mul_right_iff (by positivity)]
  split <;> omega

theorem stickyRoot_le_iff (g : Nat) : stickyRoot n k r ≤ g * 2 ^ k * 2 ↔ n ≤ (g * 2 ^ k) ^ 2 := by
  have hk : 0 < 4 ^ k := by positivity
  have hlo : r * r * 4 ^ k ≤ n := (Nat.le_div_iff_mul_le hk).mp hlo
  have hhi : n < (r + 1) * (r + 1) * 4 ^ k := (Nat.div_lt_iff_lt_mul hk).mp hhi
  have hsq : ∀ i j : Nat, i ≤ j → i * i * 4 ^ k ≤ j * j * 4 ^ k := fun i j h =>
    Nat.mul_le_mul_right _ (Nat.mul_self_le_mul_self h)
  rw [sq_grid, stickyRoot, mul_right_comm g, Nat.mul_le_mul_right_iff (by positivity)]
  split
  · next hexact =>
    rw [← hexact, Nat.mul_le_mul_right_iff hk, Nat.mul_self_le_mul_self_iff]
    omega
  · next hexact =>
    constructor
    · intro h
      exact hhi.le.trans (hsq _ _ (by omega))
    · intro h
      by_contra hg
      have hle := hsq g r (by omega)
      omega

/-- A root of at least 57 bits is rounded as its leading bits and the sticky bit are. -/
theorem roundsMag_stickyRoot (hr : 2 ^ 56 ≤ r) : RoundsMag (√(n : ℝ)) (roundMag (stickyRoot n k r) 2) := by
  obtain ⟨p, m, hpicks, hround⟩ := roundMag_picks (K := ℝ) (stickyRoot n k r) two_pos
  refine ⟨m, (Picks.of_same_grid_side (k := k) hpicks ?_ ?_ ?_).nearestEven, hround⟩
  · have hbinade : unitsOf ((k + 4) * 2 ^ 52 + 2 ^ 52) ≤ unitsOf (p + 1) := by
      have hhigh := hpicks.high
      rw [Nat.cast_ofNat, div_le_iff₀ two_pos] at hhigh
      have hhigh : stickyRoot n k r ≤ unitsOf (p + 1) * 2 := by exact_mod_cast hhigh
      have hfirst : 2 ^ 56 * 2 ^ k * 2 ≤ stickyRoot n k r := by
        rw [stickyRoot, mul_right_comm]
        exact Nat.mul_le_mul_right _ (by omega)
      rw [unitsOf_significand (Nat.pow_le_pow_right two_pos (by decide)) (.inr le_rfl)]
      have hexp : 2 ^ 52 * 2 ^ (k + 4) = 2 ^ 56 * 2 ^ k := by ring
      omega
    have hp := unitsOf_strictMono.le_iff_le.mp hbinade
    have hlt : (k + 2) * 2 ^ 52 < (k + 4) * 2 ^ 52 + 2 ^ 52 := by omega
    exact Nat.lt_succ_iff.mp (hlt.trans_le hp)
  · rintro _ ⟨c, rfl⟩
    have h := le_stickyRoot_iff hlo hhi c
    rw [Nat.cast_ofNat, le_div_iff₀ two_pos, Real.le_sqrt (Nat.cast_nonneg _) (Nat.cast_nonneg _), mul_comm (2 ^ k)]
    exact_mod_cast h
  · rintro _ ⟨c, rfl⟩
    have h := stickyRoot_le_iff hlo hhi c
    rw [Nat.cast_ofNat, div_le_iff₀ two_pos, Real.sqrt_le_left (Nat.cast_nonneg _), mul_comm (2 ^ k)]
    exact_mod_cast h

end

/-- The amount under the root is scaled down to 113 or 114 bits. -/
theorem scaled_radicand_bounds {n : Nat} (hn : 2 ^ 112 ≤ n) :
    2 ^ 112 ≤ n / 4 ^ ((Nat.log2 n - 112) / 2) ∧ n / 4 ^ ((Nat.log2 n - 112) / 2) < 4 ^ 57 := by
  have h0 : n ≠ 0 := (lt_of_lt_of_le (by positivity) hn).ne'
  have hlog : 112 ≤ Nat.log2 n := (Nat.le_log2 h0).mpr hn
  have hfour : ∀ k, (4 : Nat) ^ k = 2 ^ (2 * k) := fun k => (pow_mul 2 2 k).symm
  rw [Nat.le_div_iff_mul_le (by positivity), Nat.div_lt_iff_lt_mul (by positivity), hfour, hfour, ← pow_add,
    ← pow_add]
  constructor
  · exact (Nat.pow_le_pow_right two_pos (by omega)).trans (Nat.log2_self_le h0)
  · exact Nat.lt_log2_self.trans_le (Nat.pow_le_pow_right two_pos (by omega))

theorem roundsMag_sqrtMag {u : Nat} (hu : u ≠ 0) : RoundsMag (√((u : ℝ) * 2 ^ 1074)) (sqrtMag u) := by
  have hexp : (2 : Nat) ^ 112 ≤ 2 ^ 1074 := pow_le_pow_right₀ one_le_two (by decide)
  have hn : 2 ^ 112 ≤ u * 2 ^ 1074 := hexp.trans (Nat.le_mul_of_pos_left _ (Nat.pos_of_ne_zero hu))
  have hcast : (u : ℝ) * 2 ^ 1074 = ((u * 2 ^ 1074 : Nat) : ℝ) := by
    rw [Nat.cast_mul, Nat.cast_pow, Nat.cast_ofNat]
  rw [sqrtMag_eq, hcast]
  generalize u * 2 ^ 1074 = n at hn
  obtain ⟨hlow, hhigh⟩ := scaled_radicand_bounds hn
  obtain ⟨hlo, hhi⟩ := sqrtDigits_isRoot hhigh
  refine roundsMag_stickyRoot hlo hhi (Nat.lt_succ_iff.mp (Nat.mul_self_lt_mul_self_iff.mp ?_))
  rw [← pow_add]
  exact hlow.trans_lt hhi

/-! ### The root of a pattern -/

theorem fSqrt_zero {a : F} (h : magOf a = 0) : fSqrt a = a := by
  simp [fSqrt, fIsNaN_of_finite (finite_of_magOf_zero h), h]

theorem fSqrt_positive {a : F} (hfin : finite a) (h0 : magOf a ≠ 0) (hs : negOf a = false) :
    fSqrt a = pack false (sqrtMag (unitsOf (magOf a))) := by
  simp [fSqrt, fIsNaN_of_finite hfin, fIsInf_of_finite hfin, h0, hs]

theorem fSqrt_below_zero {a : F} (h0 : magOf a ≠ 0) (hs : negOf a = true) : fSqrt a = qnan := by
  simp [fSqrt, h0, hs]

theorem fSqrt_infinite {a : F} (h : infinite a) (hs : negOf a = false) : fSqrt a = a := by
  simp [fSqrt, fIsNaN_of_infinite h, fIsInf_of_infinite h, hs]

theorem sqrtMag_lt (u : Nat) : sqrtMag u < 2 ^ 63 := roundMag_lt _ _

/-- No root overflows: a number and the unit's own scale both lie below the bound. -/
theorem sqrtMag_lt_infMag {m : Nat} (h0 : m ≠ 0) (hm : m < infMag) : sqrtMag (unitsOf m) < infMag := by
  have hround := roundsMag_sqrtMag (unitsOf_pos h0).ne'
  have hu : unitsOf m < overflowUnits := by
    have hle := unitsOf_strictMono.monotone (Nat.le_sub_one_of_lt hm)
    have hlt : unitsOf (infMag - 1) < unitsOf infMag := unitsOf_lt (by decide)
    have hmid := unitsOf_add_unitsOf_infMag
    omega
  have hT : 2 ^ 1074 ≤ overflowUnits := by
    have hexp : (2 : Nat) ^ 1074 ≤ 2 ^ 2044 := pow_le_pow_right₀ one_le_two (by decide)
    rw [overflowUnits]
    exact le_mul_of_one_le_of_le (by decide) hexp
  have hprod : unitsOf m * 2 ^ 1074 < overflowUnits ^ 2 := by
    rw [sq]
    exact Nat.mul_lt_mul_of_lt_of_le hu hT hu.pos
  refine lt_of_le_of_ne (roundMag_le_infMag _ _) fun heq => ?_
  have hle := hround.eq_infMag_iff.mp heq
  rw [Real.le_sqrt (Nat.cast_nonneg _) (mul_nonneg (Nat.cast_nonneg _) (pow_nonneg zero_le_two _))] at hle
  exact absurd hprod (not_lt.mpr (by exact_mod_cast hle))

/-- The real root in units is the root of the amount times the scale. -/
theorem sqrt_value_units {a : F} (hs : negOf a = false) :
    √((value a : ℚ) : ℝ) * 2 ^ 1074 = √((unitsOf (magOf a) : ℝ) * 2 ^ 1074) := by
  have hT : (0 : ℝ) < 2 ^ 1074 := by positivity
  have hv : ((value a : ℚ) : ℝ) = (unitsOf (magOf a) : ℝ) / 2 ^ 1074 := by
    rw [cast_value, cast_signedUnits, hs]
    rfl
  rw [hv]
  generalize (2 : ℝ) ^ 1074 = T at hT ⊢
  have hsq : (unitsOf (magOf a) : ℝ) * T = unitsOf (magOf a) / T * T ^ 2 := by field_simp
  rw [hsq, Real.sqrt_mul' _ (sq_nonneg T), Real.sqrt_sq hT.le]

/-- The root of a number not below zero, zeros included: a number of the operand's sign, nearest to the real root. -/
theorem fSqrt_rounds {a : F} (hfin : finite a) (h : negOf a = false ∨ magOf a = 0) :
    finite (fSqrt a) ∧ negOf (fSqrt a) = negOf a ∧
      NearestEven (|√((value a : ℚ) : ℝ)| * 2 ^ 1074) (magOf (fSqrt a)) ∧
      √((value a : ℚ) : ℝ) = signed (negOf (fSqrt a)) |√((value a : ℚ) : ℝ)| := by
  rw [abs_of_nonneg (Real.sqrt_nonneg _)]
  by_cases h0 : magOf a = 0
  · have hv : value a = 0 := by
      rw [value_eq_signed, abs_value, h0]
      cases negOf a <;> simp [signed]
    rw [fSqrt_zero h0, h0, hv, Rat.cast_zero, Real.sqrt_zero, zero_mul]
    refine ⟨hfin, rfl, nearestEven_zero, ?_⟩
    cases negOf a <;> simp [signed]
  · have hs := h.resolve_right h0
    have hlt := sqrtMag_lt_infMag h0 hfin
    rw [fSqrt_positive hfin h0 hs, finite, magOf_pack _ (sqrtMag_lt _), negOf_pack _ (sqrtMag_lt _),
      sqrt_value_units hs]
    exact ⟨hlt, hs.symm, (roundsMag_sqrtMag (unitsOf_pos h0).ne').nearestEven hlt, rfl⟩

/-- Settles O32, class by class of the operand. -/
theorem squareRootIsCorrectlyRounded : Obligations.SquareRootIsCorrectlyRounded := by
  intro a
  refine ⟨fun hfin h => ?_, fSqrt_zero, fSqrt_infinite, fun hs h0 => ?_, fun h => ?_⟩
  · obtain ⟨hroot, hsign, hnear, hsigned⟩ := fSqrt_rounds hfin h
    exact ⟨hroot, hsign, fun c _ => value_nearest hsigned hnear c⟩
  · rw [fSqrt_below_zero h0 hs, fIsNaN_qnan]
  · rw [fSqrt_nan h, fIsNaN_qnan]

end Sys2Proof.Machine
end

section
/-! PROOFS. Who writes what (rules R20 to R36, R41, R160): the frame of every operation, what every tick leaves of the
host's lists, and the purity of the conversions. -/

namespace Sys2Proof.Machine

/-! ### The four kinds of operation -/

/-- An operation is the acquisition, the configuration read, a configuration write, or pure (rule R81). -/
theorem effectOf_kinds (i : Instr) :
    i = .acq ∨ i = .rdcfg ∨ (∃ w, initWiring i = some w ∧ effectOf i = effInit w) ∨
      pureEffect i = some (effectOf i) := by
  cases i
  case acq => exact .inl rfl
  case rdcfg => exact .inr (.inl rfl)
  case init2w | init3w | init4w => all_goals exact .inr (.inr (.inl ⟨_, rfl, rfl⟩))
  all_goals exact .inr (.inr (.inr rfl))

/-- What every operation leaves alone (rules R42, R160). -/
theorem effectOf_frame (i : Instr) (s : State) :
    effectOf i s =
      { effectOf i s with
        x0 := s.x0
        x1 := s.x1
        calOffset := s.calOffset
        calSlope := s.calSlope
        r0cfg := s.r0cfg
        curve := s.curve
        cmd := s.cmd
        params := s.params
        program := s.program
        reads := s.reads } := by
  obtain rfl | rfl | ⟨w, -, hw⟩ | hp := effectOf_kinds i
  · rw [show effectOf .acq s = effAcq s from rfl, effAcq_frame]
  · rw [show effectOf .rdcfg s = effRdcfg s from rfl, effRdcfg_frame]
  · rw [hw, effInit_frame]
  · obtain ⟨v, hv⟩ := pureEffect_result hp s
    rw [hv, writeResult_eq]

/-- Settles O53, by the frame of every operation. -/
theorem operandsAndConfigurationAreNeverWritten : Obligations.OperandsAndConfigurationAreNeverWritten := by
  intro i s t h
  obtain ⟨-, rfl⟩ := exec_next h
  rw [effectOf_frame]
  exact ⟨rfl, rfl, rfl, rfl, rfl, rfl, rfl, rfl, rfl, rfl⟩

/-- Settles O54, kind by kind. -/
theorem eachStateHasItsOwnWriters : Obligations.EachStateHasItsOwnWriters := by
  intro i s t h
  obtain ⟨-, rfl⟩ := exec_next h
  obtain rfl | rfl | ⟨w, hi, hw⟩ | hp := effectOf_kinds i
  · rw [show effectOf .acq s = effAcq s from rfl, effAcq_frame]
    exact ⟨fun ha => absurd rfl ha, fun _ => rfl, fun ha => absurd rfl ha, by simp⟩
  · rw [show effectOf .rdcfg s = effRdcfg s from rfl, effRdcfg_frame]
    exact ⟨fun _ => ⟨rfl, rfl, rfl, rfl, rfl, rfl, rfl, rfl⟩, fun hr => absurd rfl hr, fun _ hr => absurd rfl hr,
      fun _ => rfl⟩
  · rw [hw, effInit_frame]
    refine ⟨fun _ => ⟨rfl, rfl, rfl, rfl, rfl, rfl, rfl, rfl⟩, fun _ => rfl, fun _ _ h2 h3 h4 => ?_, fun _ => rfl⟩
    cases i <;> simp_all [initWiring]
  · obtain ⟨v, hv⟩ := pureEffect_result hp s
    rw [hv, writeResult_eq]
    refine ⟨fun _ => ⟨rfl, rfl, rfl, rfl, rfl, rfl, rfl, rfl⟩, fun _ => rfl, fun _ _ _ _ _ => ⟨rfl, rfl, rfl, rfl, rfl⟩,
      ?_⟩
    rintro (rfl | rfl | rfl | rfl) <;> simp [pureEffect] at hp

/-! ### Conversions -/

/-- The value a conversion writes is a function of `K`, `x[0]` and `x[1]` (rule R41). -/
theorem conversion_value {c : Curve} {i : Instr} (hi : i = .r2t c ∨ i = .t2r c) :
    ∃ g : CoeffTable → F → F → F, ∀ s, effectOf i s = writeResult (g s.params.k s.x0 s.x1) s := by
  obtain rfl | rfl := hi
  · cases c with
    | pt385 => exact ⟨fun k => platinumTemp k.pt385, fun _ => rfl⟩
    | pt391 => exact ⟨fun k => platinumTemp k.pt391, fun _ => rfl⟩
    | cu428 => exact ⟨fun k => copperTemp k.cu428, fun _ => rfl⟩
    | ni617 => exact ⟨fun k => nickelTemp k.ni617, fun _ => rfl⟩
  · cases c with
    | pt385 => exact ⟨fun k => platinumOhms k.pt385, fun _ => rfl⟩
    | pt391 => exact ⟨fun k => platinumOhms k.pt391, fun _ => rfl⟩
    | cu428 => exact ⟨fun k => copperOhms k.cu428, fun _ => rfl⟩
    | ni617 => exact ⟨fun k => nickelOhms k.ni617, fun _ => rfl⟩

/-- One value written at two draw counts is the same but for which NaN it is (decision D4). -/
theorem sameF_settle (m n : Nat) (v : F) : SameF (settle m v) (settle n v) := by
  cases hv : fIsNaN v with
  | false => exact .inl ((settle_of_not_nan m hv).trans (settle_of_not_nan n hv).symm)
  | true => exact .inr ⟨(fIsNaN_settle m v).trans hv, (fIsNaN_settle n v).trans hv⟩

/-- Settles O22: both runs write the same value of the same function, each at its own draw count. -/
theorem conversionsArePure : Obligations.ConversionsArePure := by
  intro c s u hs hu h0 h1 hk i hi
  obtain ⟨g, hg⟩ := conversion_value hi
  have hvalue : g s.params.k s.x0 s.x1 = g u.params.k u.x0 u.x1 := by rw [h0, h1, hk]
  refine ⟨_, _, exec_idle i hs, exec_idle i hu, ?_⟩
  rw [hg, hg, hvalue]
  exact ⟨sameF_settle s.draws u.draws _, rfl, rfl⟩

/-! ### One phase -/

/-- A tick in `EXEC` writes one result register (rules R110, R130, R150, R151). -/
theorem tickExec_next {s t : State} (h : tickExec s = .next t) : ∃ v, t = (writeResult v s).setSeq .idle := by
  unfold tickExec at h
  split at h
  · next f hf =>
    unfold heldEffect at hf
    split at hf
    · obtain ⟨v, hv⟩ := pureEffect_result hf s
      exact ⟨v, hv ▸ (Host.Outcome.next.inj h).symm⟩
    · cases hf
  · cases h

/-- A tick in `CFG_TX` runs the configuration write (rule R170). -/
theorem tickCfgTx_next {s t : State} (h : tickCfgTx s = .next t) : ∃ w, t = (effInit w s).setSeq .idle := by
  unfold tickCfgTx at h
  split at h
  · next w _ => exact ⟨w, (Host.Outcome.next.inj h).symm⟩
  · cases h

/-- The two outcomes of a tick in `RECOVER` (rules R163, R167 (b)). -/
theorem tickRecover_cases (s : State) :
    tickRecover s = ((memWrite addrCfgWr [recovCfg] s).2.setFault false).setSeq .compute ∨
      ∃ k, tickRecover s = raiseRecoveryTransport k ((memWrite addrCfgWr [recovCfg] s).2.setFault false) := by
  cases h : memWrite addrCfgWr [recovCfg] s with
  | mk r s1 =>
    cases r with
    | ok => exact .inl (by simp only [tickRecover, h])
    | fail k => exact .inr ⟨k, by simp only [tickRecover, h]⟩

/-- The host's own lists stand as they were. -/
def SameHost (s t : State) : Prop := t.program = s.program ∧ t.reads = s.reads

theorem sameHost_effInit (w : Wiring) (s : State) : SameHost s (effInit w s) := by
  rw [effInit_frame]
  exact ⟨rfl, rfl⟩

section
variable (s : State)

theorem sameHost_tickRdTx : SameHost s (tickRdTx s) := by
  unfold tickRdTx
  split <;> simp [SameHost]

theorem sameHost_tickRdRx : SameHost s (tickRdRx s) := by
  unfold tickRdRx
  split <;> simp [SameHost]

theorem sameHost_tickRecover : SameHost s (tickRecover s) := by
  obtain h | ⟨k, h⟩ := tickRecover_cases s <;> rw [h] <;> simp [SameHost]

theorem sameHost_tickRcTx : SameHost s (tickRcTx s) := by
  unfold tickRcTx
  split <;> simp [SameHost]

theorem sameHost_tickRcRx : SameHost s (tickRcRx s) := by
  unfold tickRcRx
  split <;> simp [SameHost]

end

/-- No phase touches the host's lists (rule R68). -/
theorem sameHost_of_tick {s t : State} (h : tick s = .next t) : SameHost s t := by
  unfold tick at h
  split at h
  case h_2 =>
    obtain ⟨v, rfl⟩ := tickExec_next h
    exact ⟨rfl, rfl⟩
  case h_9 =>
    obtain ⟨w, rfl⟩ := tickCfgTx_next h
    exact sameHost_effInit w s
  all_goals obtain rfl := Host.Outcome.next.inj h
  · exact ⟨rfl, rfl⟩
  · exact sameHost_tickRdTx s
  · exact sameHost_tickRdRx s
  · exact ⟨rfl, rfl⟩
  · exact ⟨rfl, rfl⟩
  · exact sameHost_tickRecover s
  · exact ⟨deliver_program s, deliver_reads s⟩
  · exact sameHost_tickRcTx s
  · exact sameHost_tickRcRx s

end Sys2Proof.Machine
end

section
/-! PROOFS. The host port (rules R39, R40, R68, R220): what each host action does in `IDLE`, which lines it answers, and
that it is blocked in every other phase. -/

namespace Sys2Proof.Machine

/-! ### The guard -/

theorem inIdle_idle {s : State} (hs : s.seq = .idle) (k : Host.Outcome State Fault Refusal) : inIdle s k = k :=
  if_pos hs

theorem inIdle_busy {s : State} (hs : s.seq ≠ .idle) (k : Host.Outcome State Fault Refusal) :
    inIdle s k = .refused .hostBlocked := if_neg hs

theorem inIdle_next {s t : State} {k : Host.Outcome State Fault Refusal} (h : inIdle s k = .next t) :
    s.seq = .idle ∧ k = .next t := by
  by_cases hs : s.seq = .idle
  · exact ⟨hs, inIdle_idle hs k ▸ h⟩
  · rw [inIdle_busy hs] at h
    cases h

/-! ### The registers the host sees -/

@[simp] theorem readHostReg_x_missing (s : State) (i : Nat) : readHostReg s (.x (i + 4)) = none := rfl

@[simp] theorem readHostReg_c_missing (s : State) (j : Nat) : readHostReg s (.c (j + 10)) = none := rfl

@[simp] theorem writeHostReg_x_missing (s : State) (i : Nat) (v : BitVec 64) :
    writeHostReg s (.x (i + 4)) v = none := by simp [writeHostReg]

@[simp] theorem writeHostReg_c_missing (s : State) (j : Nat) (v : BitVec 64) :
    writeHostReg s (.c (j + 10)) v = none := by simp [writeHostReg]

/-- The read-only control registers ignore a write (rule R68). -/
theorem writeHostReg_c_readOnly (s : State) {j : Nat} (v : BitVec 64) (hlow : 4 ≤ j) (hhigh : j < 10) :
    writeHostReg s (.c j) v = some s := by
  obtain ⟨k, rfl⟩ := Nat.exists_eq_add_of_le' hlow
  simp [writeHostReg, hhigh]

/-- A register exists or has an index past the last (rules R20, R39). -/
theorem hostReg_cases (r : HostReg) :
    ((∃ i : Fin 4, r = .x i) ∨ ∃ j : Fin 10, r = .c j) ∨ (∃ i, r = .x (i + 4)) ∨ ∃ j, r = .c (j + 10) := by
  cases r with
  | x i =>
    obtain hi | hi := Nat.lt_or_ge i 4
    · exact .inl (.inl ⟨⟨i, hi⟩, rfl⟩)
    · exact .inr (.inl ((Nat.exists_eq_add_of_le' hi).imp fun _ => congrArg HostReg.x))
  | c j =>
    obtain hj | hj := Nat.lt_or_ge j 10
    · exact .inl (.inr ⟨⟨j, hj⟩, rfl⟩)
    · exact .inr (.inr ((Nat.exists_eq_add_of_le' hj).imp fun _ => congrArg HostReg.c))

/-- A register reads as a value exactly when it exists (rules R20, R39). -/
theorem readHostReg_isSome (s : State) (r : HostReg) : (readHostReg s r).isSome = r.wf := by
  obtain (⟨i, rfl⟩ | ⟨j, rfl⟩) | ⟨i, rfl⟩ | ⟨j, rfl⟩ := hostReg_cases r
  · fin_cases i <;> rfl
  · fin_cases j <;> rfl
  · simp [HostReg.wf]
  · simp [HostReg.wf]

/-- A write is taken, if only to be ignored, exactly when the register exists (rules R39, R68). -/
theorem writeHostReg_isSome (s : State) (r : HostReg) (v : BitVec 64) : (writeHostReg s r v).isSome = r.wf := by
  obtain (⟨i, rfl⟩ | ⟨j, rfl⟩) | ⟨i, rfl⟩ | ⟨j, rfl⟩ := hostReg_cases r
  · fin_cases i <;> rfl
  · fin_cases j <;> rfl
  · simp [HostReg.wf]
  · simp [HostReg.wf]

/-- `STATUS` as a number (rule R32). -/
theorem statusByte_toNat (s : State) :
    (statusByte s).toNat = s.fault.toNat + 2 * s.valid.toNat + 4 * s.err.toNat + 8 * s.cause.toNat := by
  unfold statusByte
  generalize s.cause = cause
  generalize s.err = err
  generalize s.valid = valid
  generalize s.fault = fault
  revert cause err valid fault
  decide

/-! ### Reads and writes in `IDLE` -/

section
variable {s : State} (hs : s.seq = .idle) {r : HostReg}
include hs

theorem perform_write {t : State} {v : BitVec 64} (h : writeHostReg s r v = some t) :
    perform (.write r v) s = .next t := by rw [perform, hostWrite, inIdle_idle hs, h]

theorem perform_write_missing {v : BitVec 64} (h : writeHostReg s r v = none) :
    perform (.write r v) s = .refused (.noSuchRegister r) := by rw [perform, hostWrite, inIdle_idle hs, h]

theorem perform_read {v : BitVec 64} (h : readHostReg s r = some v) :
    perform (.read r) s = .next (s.pushRead r v) := by rw [perform, hostRead, inIdle_idle hs, h]

theorem perform_read_missing (h : readHostReg s r = none) :
    perform (.read r) s = .refused (.noSuchRegister r) := by rw [perform, hostRead, inIdle_idle hs, h]

theorem perform_reset : perform .reset s = .next (afterReset s) := if_pos hs

end

/-- Settles O56, register by register. -/
theorem hostWriteMap : Obligations.HostWriteMap := by
  intro s v hs
  have hcurve : v.setWidth 2 = v.extractLsb' 0 2 := BitVec.setWidth_eq_extractLsb' (by decide)
  refine ⟨perform_write hs rfl, perform_write hs rfl, perform_write hs rfl, perform_write hs rfl,
    perform_write hs rfl, perform_write hs ?_, perform_write hs rfl, perform_write hs rfl, fun j hlow hhigh =>
      perform_write hs (writeHostReg_c_readOnly s v hlow (Nat.lt_succ_of_le hhigh))⟩
  rw [← hcurve]
  rfl

/-- Settles O57: a register that exists has a value, and zero extension keeps the number of an integer register. -/
theorem hostReadMap : Obligations.HostReadMap := by
  intro s hs
  have hzero : ∀ {n : Nat} (b : BitVec n), n ≤ 64 → (b.setWidth 64).toNat = b.toNat :=
    fun b hn => BitVec.toNat_setWidth_of_le hn
  refine ⟨fun r hr => ?_, rfl, rfl, rfl, rfl, rfl, rfl, rfl, ?_⟩
  · rw [← readHostReg_isSome s] at hr
    obtain ⟨v, hv⟩ := Option.isSome_iff_exists.mp hr
    exact ⟨v, perform_read hs hv, hv⟩
  · refine ⟨?_, ?_, ?_, ?_, ?_, ?_, ?_⟩ <;>
      simp only [readHostReg, Option.map_some, hzero, Nat.reduceLeDiff, statusByte_toNat]

/-- Settles O58: a register past the last has no value and takes none. -/
theorem missingRegistersAreRefused : Obligations.MissingRegistersAreRefused := by
  intro s v j hs
  constructor
  · intro hj
    obtain ⟨k, rfl⟩ := Nat.exists_eq_add_of_le' hj
    exact ⟨perform_write_missing hs (writeHostReg_c_missing s k v), perform_read_missing hs (readHostReg_c_missing s k)⟩
  · intro hj
    obtain ⟨k, rfl⟩ := Nat.exists_eq_add_of_le' hj
    exact ⟨perform_write_missing hs (writeHostReg_x_missing s k v), perform_read_missing hs (readHostReg_x_missing s k)⟩

/-! ### Reset -/

theorem fOne_eq : fOne = Sys2Proof.Spec.one := by decide +kernel

theorem fHundred_eq : fHundred = Sys2Proof.Spec.hundred := by decide +kernel

/-- Settles O10, field by field. -/
theorem resetLeavesTheStatedValues : Obligations.ResetLeavesTheStatedValues :=
  ⟨rfl, rfl, fOne_eq, rfl, fHundred_eq, rfl, rfl, rfl, rfl, rfl, rfl⟩

/-- Settles O11: the reset event leaves the reset state's own registers and keeps what surrounds RTDCORE. -/
theorem resetEventRestoresTheStatedValues : Obligations.ResetEventRestoresTheStatedValues := fun s hs =>
  ⟨afterReset s, perform_reset hs, rfl, rfl, fOne_eq, rfl, fHundred_eq, rfl, rfl, rfl, rfl, rfl, rfl, rfl, rfl, rfl⟩

/-! ### Which lines are answered -/

/-- An action is answered when its line is well formed and refused when it is not. -/
def AnswersIff (o : Host.Outcome State Fault Refusal) (wf : Bool) : Prop :=
  (wf = true → ∃ t, o = .next t) ∧ (wf = false → ∃ r, o = .refused r)

theorem answersIff_next (t : State) : AnswersIff (.next t) true := ⟨fun _ => ⟨t, rfl⟩, nofun⟩

theorem answersIff_refused (r : Refusal) : AnswersIff (.refused r) false := ⟨nofun, fun _ => ⟨r, rfl⟩⟩

/-- The words that decode are the fifteen legal ones (rules R81, R84). -/
theorem decode_isSome (w : BitVec 8) : (decode w).toOption.isSome = legalCommands.contains w := by
  revert w
  decide

/-- Apart from the command port, the word indices with a meaning are those of a register (rule R68). -/
theorem regOfWord_isSome {index : Nat} (h : index ≠ 31) : (regOfWord index).isSome = wordIndexWf index := by
  have hport : (index == 31) = false := beq_false_of_ne h
  rw [regOfWord, wordIndexWf, hport, Bool.or_false]
  split
  · next hx => simp [hx]
  · next hx => split <;> simp_all

/-- The register at a word index exists. -/
theorem wf_of_regOfWord {index : Nat} {r : HostReg} (h : regOfWord index = some r) : r.wf = true := by
  unfold regOfWord at h
  split at h
  · next hx =>
    obtain rfl := Option.some.inj h
    exact decide_eq_true hx
  · split at h
    · next hc =>
      obtain rfl := Option.some.inj h
      exact decide_eq_true (by omega)
    · cases h

section
variable {s : State} (hs : s.seq = .idle)
include hs

theorem hostWrite_answersIff (r : HostReg) (v : BitVec 64) : AnswersIff (perform (.write r v) s) r.wf := by
  rw [← writeHostReg_isSome s r v]
  cases h : writeHostReg s r v with
  | some t => rw [perform_write hs h]; exact answersIff_next t
  | none => rw [perform_write_missing hs h]; exact answersIff_refused _

theorem hostRead_answersIff (r : HostReg) : AnswersIff (perform (.read r) s) r.wf := by
  rw [← readHostReg_isSome s r]
  cases h : readHostReg s r with
  | some v => rw [perform_read hs h]; exact answersIff_next _
  | none => rw [perform_read_missing hs h]; exact answersIff_refused _

/-- `MOV` answers when both its registers exist (rule R96). -/
theorem hostCopy_answersIff (dst src : HostReg) : AnswersIff (hostCopy dst src s) (dst.wf && src.wf) := by
  rw [hostCopy, inIdle_idle hs, ← readHostReg_isSome s src]
  cases readHostReg s src with
  | some v =>
    rw [Option.isSome_some, Bool.and_true]
    exact hostWrite_answersIff (s := s.pushRead src v) hs dst v
  | none =>
    rw [Option.isSome_none, Bool.and_false]
    exact answersIff_refused _

theorem hostStart_answersIff (w : BitVec 8) : AnswersIff (perform (.start w) s) (legalCommands.contains w) := by
  rw [← decode_isSome]
  cases hd : decode w with
  | ok i =>
    rw [perform_start hs hd, exec_idle i (s := s.setCmd w) hs]
    exact answersIff_next _
  | error e =>
    rw [perform_reserved hs hd]
    exact answersIff_refused _

theorem hostWordWrite_answersIff (index : Nat) (v : BitVec 64) :
    AnswersIff (hostWordWrite index v s) (Action.wordWrite index v).wf := by
  by_cases h : index = 31
  · subst h
    exact hostStart_answersIff hs _
  · have hwf : (Action.wordWrite index v).wf = (regOfWord index).isSome := by
      simp [Action.wf, regOfWord_isSome h, h]
    rw [hwf, hostWordWrite, if_neg (show index ≠ cmdWord from h)]
    cases hr : regOfWord index with
    | some r =>
      have hreg := hostWrite_answersIff hs r v
      rwa [wf_of_regOfWord hr] at hreg
    | none =>
      rw [inIdle_idle hs]
      exact answersIff_refused _

theorem hostWordRead_answersIff (index : Nat) :
    AnswersIff (hostWordRead index s) (Action.wordRead index).wf := by
  have hwf : (Action.wordRead index).wf = (regOfWord index).isSome := by
    by_cases h : index = 31
    · subst h
      rfl
    · simp [Action.wf, regOfWord_isSome h, h]
  rw [hwf, hostWordRead]
  cases hr : regOfWord index with
  | some r =>
    have hreg := hostRead_answersIff hs r
    rwa [wf_of_regOfWord hr] at hreg
  | none =>
    rw [inIdle_idle hs]
    exact answersIff_refused _

theorem perform_answersIff (a : Action) : AnswersIff (perform a s) a.wf := by
  cases a with
  | write r v => exact hostWrite_answersIff hs r v
  | read r => exact hostRead_answersIff hs r
  | start w => exact hostStart_answersIff hs w
  | copy dst src => exact hostCopy_answersIff hs dst src
  | wordWrite index v => exact hostWordWrite_answersIff hs index v
  | wordRead index => exact hostWordRead_answersIff hs index
  | reset =>
    rw [perform_reset hs]
    exact answersIff_next _

end

/-- Settles O8: the step performs the line on the state that has used it up. -/
theorem idleStepPerformsExactlyWellFormedLines : Obligations.IdleStepPerformsExactlyWellFormedLines := by
  intro s hs
  refine ⟨step_waits hs, fun a rest hp => ?_⟩
  rw [step_line hs hp]
  exact perform_answersIff (s := s.setProgram rest) hs a

/-! ### While an operation runs -/

/-- Outside `IDLE` every action but a reset is refused as blocked (rule R68). -/
theorem perform_busy {s : State} (hs : s.seq ≠ .idle) {a : Action} (ha : a ≠ .reset) :
    perform a s = .refused .hostBlocked := by
  have hwrite : ∀ r v, hostWrite r v s = .refused .hostBlocked := fun r v => inIdle_busy hs _
  have hread : ∀ r, hostRead r s = .refused .hostBlocked := fun r => inIdle_busy hs _
  have hstart : ∀ w, hostStart w s = .refused .hostBlocked := fun w => inIdle_busy hs _
  cases a with
  | write r v => exact hwrite r v
  | read r => exact hread r
  | start w => exact hstart w
  | copy dst src => exact inIdle_busy hs _
  | wordWrite index v =>
    simp only [perform, hostWordWrite]
    split
    · exact hstart _
    · split
      · exact hwrite _ v
      · exact inIdle_busy hs _
  | wordRead index =>
    simp only [perform, hostWordRead]
    split
    · exact hread _
    · exact inIdle_busy hs _
  | reset => exact absurd rfl ha

/-- Settles O9: the guards refuse, and no phase touches the host's lists. -/
theorem hostIsBlockedWhileAnOperationRuns : Obligations.HostIsBlockedWhileAnOperationRuns := by
  intro s hs
  refine ⟨fun i => exec_busy i hs, fun a => perform_busy hs, if_neg hs, fun t h => ?_⟩
  rw [step_busy hs] at h
  exact sameHost_of_tick h

end Sys2Proof.Machine
end

section
/-! PROOFS. The invariant (rules R24, R26, R37, R51, R165, R169, R172): it holds at reset, and every step keeps it. A
state that ends an operation is the business of `BusClosed.invariant`, whatever phase or whole operation led there; a
move between two phases that touches neither report nor fault is `Invariant.move`. -/

namespace Sys2Proof.Machine

/-- Settles O48, field by field. -/
theorem invariantHoldsAtReset : Obligations.InvariantHoldsAtReset :=
  ⟨rfl, rfl, rfl, nofun, .inl ⟨rfl, rfl⟩, fun _ _ _ => nofun, .inl rfl⟩

/-! ### The bus order, event by event -/

/-- The trace keeps the order of rule R51 and ends where the line stands. -/
def BusOrdered (s : State) : Prop := busReplay .released s.trace = some s.cs

theorem BusOrdered.congr {s t : State} (h : BusOrdered s) (htrace : t.trace = s.trace) (hcs : t.cs = s.cs) :
    BusOrdered t := by rwa [BusOrdered, htrace, hcs]

/-- One more event, in order where the line stood, leaves the line where the event puts it. -/
theorem BusOrdered.event {s t : State} {e : BusEvent} (h : BusOrdered s) (htrace : t.trace = s.trace ++ [e])
    (hnext : busNext s.cs e = some t.cs) : BusOrdered t := by
  rw [BusOrdered, htrace, busReplay_append, h, Option.bind_some, busReplay, hnext]
  rfl

section
variable {s : State} (h : BusOrdered s)
include h

theorem BusOrdered.csAssert (hcs : s.cs = .released) : BusOrdered (csAssert s) :=
  h.event (csAssert_trace s) (by rw [hcs, csAssert_cs]; rfl)

theorem BusOrdered.csRelease (hcs : s.cs = .asserted) : BusOrdered (csRelease s) :=
  h.event (csRelease_trace s) (by rw [hcs, csRelease_cs]; rfl)

theorem BusOrdered.busTx (bytes : List Byte) (hcs : s.cs = .asserted) : BusOrdered (busTx bytes s) :=
  h.event (busTx_trace bytes s) (by rw [busTx_cs, hcs]; rfl)

theorem BusOrdered.busRx (n : Nat) (hcs : s.cs = .asserted) : BusOrdered (busRx n s) :=
  h.event (busRx_trace n s) (by rw [busRx_cs, hcs]; rfl)

/-- A configuration write leaves the trace in order. -/
theorem BusOrdered.memWrite (addr : Byte) (v : List Byte) (hcs : s.cs = .released) :
    BusOrdered (memWrite addr v s).2 :=
  ((h.csAssert hcs).busTx (addr :: v) (csAssert_cs s)).csRelease (by simp)

/-- A read leaves the trace in order, whether it fails or not. -/
theorem BusOrdered.memRead (addr : Byte) (n : Nat) (hcs : s.cs = .released) : BusOrdered (memRead addr n s).2 := by
  have htx := (h.csAssert hcs).busTx [addr] (csAssert_cs s)
  obtain ⟨k, -, hread⟩ | ⟨-, hread⟩ := memRead_cases addr n s <;> rw [hread]
  · exact htx.csRelease (by simp)
  · exact (htx.busRx n (by simp)).csRelease (by simp)

end

/-! ### The report -/

/-- `ERR` and `CAUSE` report nothing or one of the two kinds of failure (rule R26). -/
def CauseLegal (s : State) : Prop :=
  (s.err = false ∧ s.cause = 0#2) ∨ (s.err = true ∧ (s.cause = 1#2 ∨ s.cause = 2#2))

theorem causeLegal_ok {s : State} (herr : s.err = false) (hcause : s.cause = 0#2) : CauseLegal s :=
  .inl ⟨herr, hcause⟩

theorem causeLegal_failure {s : State} (k : FailKind) (herr : s.err = true) (hcause : s.cause = causeCode k) :
    CauseLegal s := by
  refine .inr ⟨herr, ?_⟩
  cases k with
  | timeout => exact .inl hcause
  | error => exact .inr hcause

/-! ### Where an operation can end -/

/-- No transaction is open, the trace is in order, `FAULT` is 0. -/
structure BusClosed (s : State) : Prop where
  released : s.cs = .released
  ordered : BusOrdered s
  quiet : s.fault = false

/-- A reading marked valid came from a frame without a fault (rule R165). -/
def ValidSound (s : State) : Prop := s.valid = true → s.fstat = 0#8

theorem BusClosed.congr {s t : State} (h : BusClosed s) (hcs : t.cs = s.cs) (htrace : t.trace = s.trace)
    (hfault : t.fault = s.fault) : BusClosed t :=
  ⟨hcs.trans h.released, h.ordered.congr htrace hcs, hfault.trans h.quiet⟩

/-- In `IDLE` the invariant asks for no more than this. -/
theorem BusClosed.invariant {s : State} (h : BusClosed s) (hs : s.seq = .idle) (hcause : CauseLegal s)
    (hvalid : ValidSound s) : Invariant s where
  csPhase := by simp [h.released, hs, phaseHoldsCs]
  busOrder := h.ordered
  faultPhase := by simp [h.quiet, hs]
  faultByte := by simp [hs, phaseHandlesFault]
  causeLegal := hcause
  validByte _ _ _ := hvalid
  phaseOfCommand := .inl hs

section
variable {s : State} (h : BusClosed s)
include h

/-- The last phase of `ACQ` writes `VALID` from the fault byte (rule R165). -/
theorem BusClosed.deliver_invariant : Invariant (deliver s) := by
  have hclosed : BusClosed (deliver s) := h.congr (by simp) (by simp) (by simp)
  refine hclosed.invariant (by simp) (causeLegal_ok (by simp) (by simp)) ?_
  simp [ValidSound, faulted]

theorem BusClosed.raiseTransport_invariant (k : FailKind) : Invariant (raiseTransport k s) := by
  have hclosed : BusClosed (raiseTransport k s) := h.congr (by simp) (by simp) (by simp)
  refine hclosed.invariant (by simp) (causeLegal_failure k (by simp) (by simp)) ?_
  simp [ValidSound]

theorem BusClosed.raiseRecoveryTransport_invariant (k : FailKind) : Invariant (raiseRecoveryTransport k s) := by
  have hclosed : BusClosed (raiseRecoveryTransport k s) := h.congr (by simp) (by simp) (by simp)
  refine hclosed.invariant (by simp) (causeLegal_failure k (by simp) (by simp)) ?_
  simp [ValidSound]

/-- `RDCFG` ends with the byte read (rule R171). -/
theorem BusClosed.configuration_invariant (hvalid : ValidSound s) (v : Byte) :
    Invariant ((reportOk (s.setCfgrd v)).setSeq .idle) :=
  BusClosed.invariant (h.congr rfl rfl rfl) rfl (causeLegal_ok rfl rfl) hvalid

/-- `RDCFG` ends with a failure (rule R171). -/
theorem BusClosed.lostConfiguration_invariant (hvalid : ValidSound s) (k : FailKind) :
    Invariant ((loseCfgrd (reportFailure k s)).setSeq .idle) :=
  BusClosed.invariant (h.congr rfl rfl rfl) rfl (causeLegal_failure k rfl rfl) hvalid

/-- `INIT.*` ends with a report of its one transfer (rule R170). -/
theorem BusClosed.report_invariant (hvalid : ValidSound s) (r : Transfer) :
    Invariant ((reportTransfer r s).setSeq .idle) := by
  cases r with
  | ok => exact BusClosed.invariant (h.congr rfl rfl rfl) rfl (causeLegal_ok rfl rfl) hvalid
  | fail k => exact BusClosed.invariant (h.congr rfl rfl rfl) rfl (causeLegal_failure k rfl rfl) hvalid

/-- Between `DECODE` and `COMPUTE` an acquisition either has a fault to handle or a frame to deliver; `VALID` does not
speak of that frame yet. -/
theorem BusClosed.verdict_invariant (hcause : CauseLegal s) (hcmd : decode s.cmd = .ok .acq)
    (hseq : s.seq = .faultDet ∧ s.fstat ≠ 0#8 ∨ s.seq = .compute) : Invariant s := by
  have hphase : phaseHoldsCs s.seq = false ∧ s.seq ≠ .recover ∧ phaseOf .acq s.seq = true := by
    obtain ⟨hs, -⟩ | hs := hseq <;> simp [hs, phaseHoldsCs, phaseOf]
  obtain ⟨hholds, hrecover, hof⟩ := hphase
  exact
    { csPhase := by simp [h.released, hholds]
      busOrder := h.ordered
      faultPhase := by simp [h.quiet, hrecover]
      faultByte := fun hhandles => by
        obtain ⟨-, hbyte⟩ | hs := hseq
        · exact hbyte
        · rw [hs] at hhandles
          cases hhandles
      causeLegal := hcause
      validByte := fun hdet _ hcompute => hseq.elim (fun hs => absurd hs.1 hdet) (absurd · hcompute)
      phaseOfCommand := .inr ⟨.acq, hcmd, hof⟩ }

/-- A read of the front-end from here ends with the bus closed again. -/
theorem BusClosed.memRead (addr : Byte) (n : Nat) : BusClosed (memRead addr n s).2 :=
  ⟨memRead_cs addr n s, h.ordered.memRead addr n h.released, (memRead_fault addr n s).trans h.quiet⟩

theorem BusClosed.memWrite (addr : Byte) (v : List Byte) : BusClosed (memWrite addr v s).2 :=
  ⟨memWrite_cs addr v s, h.ordered.memWrite addr v h.released, (memWrite_fault addr v s).trans h.quiet⟩

end

/-- The recovery write, with `FAULT` cleared after it whatever it was before (rule R163). -/
theorem busClosed_recovery {s : State} (h : BusOrdered s) (hcs : s.cs = .released) (addr : Byte) (v : List Byte) :
    BusClosed ((memWrite addr v s).2.setFault false) :=
  ⟨memWrite_cs addr v s, (h.memWrite addr v hcs).congr rfl rfl, rfl⟩

/-- The release that ends a transaction. -/
theorem busClosed_csRelease {s : State} (h : BusOrdered s) (hcs : s.cs = .asserted) (hfault : s.fault = false) :
    BusClosed (csRelease s) :=
  ⟨csRelease_cs s, h.csRelease hcs, (csRelease_fault s).trans hfault⟩

/-! ### What the invariant gives in a phase -/

/-- The phases in which neither a fault is handled nor a decoded frame awaits delivery. -/
def phaseIsPlain (p : Phase) : Bool := !phaseHandlesFault p && p != .compute

/-- A phase of `ACQ` or of `RDCFG` is of no other operation. -/
theorem phaseOf_unique {i j : Instr} {p : Phase} (hi : i = .acq ∨ i = .rdcfg) (hp : p ≠ .idle)
    (h : phaseOf i p = true) (hj : phaseOf j p = true) : j = i := by
  obtain rfl | rfl := hi <;> cases p
  case inl.idle | inr.idle => all_goals exact absurd rfl hp
  case inl.rdTx | inl.rdRx | inl.decode | inl.faultDet | inl.recover | inl.compute | inr.rcTx | inr.rcRx =>
    all_goals cases j <;> simp [phaseOf] at hj ⊢
  all_goals cases h

/-- `FAULT`, `VALID`, `ERR`, `CAUSE` and `FSTAT` stand as they were. -/
structure SameReports (s t : State) : Prop where
  fault : t.fault = s.fault
  valid : t.valid = s.valid
  err : t.err = s.err
  cause : t.cause = s.cause
  fstat : t.fstat = s.fstat

section
variable {s : State} (h : Invariant s)
include h

theorem Invariant.ordered : BusOrdered s := h.busOrder

theorem Invariant.asserted (hp : phaseHoldsCs s.seq = true) : s.cs = .asserted := by rw [h.csPhase, if_pos hp]

theorem Invariant.released (hp : phaseHoldsCs s.seq = false) : s.cs = .released := by
  rw [h.csPhase, if_neg (by simp [hp])]

theorem Invariant.quiet (hp : phaseIsPlain s.seq = true) : s.fault = false := by
  have hne : s.seq ≠ .recover := by rintro heq; rw [heq] at hp; cases hp
  rw [h.faultPhase, decide_eq_false hne]

theorem Invariant.closed (hp : phaseIsPlain s.seq = true) (hcs : phaseHoldsCs s.seq = false) : BusClosed s :=
  ⟨h.released hcs, h.ordered, h.quiet hp⟩

theorem Invariant.validSound (hp : phaseIsPlain s.seq = true) : ValidSound s := by
  refine h.validByte ?_ ?_ ?_ <;> rintro heq <;> rw [heq] at hp <;> cases hp

/-- In a phase that is of `i` alone the command port holds `i`. -/
theorem Invariant.held {i : Instr} (hi : i = .acq ∨ i = .rdcfg) (hs : s.seq ≠ .idle) (hp : phaseOf i s.seq = true) :
    decode s.cmd = .ok i := by
  obtain hidle | ⟨j, hd, hj⟩ := h.phaseOfCommand
  · exact absurd hidle hs
  · rw [hd, phaseOf_unique hi hs hp hj]

/-- A move between two phases that handle no fault, and that touches no report. -/
theorem Invariant.move {t : State} (hs : phaseIsPlain s.seq = true) (ht : phaseHandlesFault t.seq = false)
    (hreg : SameReports s t) (hcs : t.cs = if phaseHoldsCs t.seq then .asserted else .released) (hbus : BusOrdered t)
    (hcmd : t.seq = .idle ∨ ∃ i, decode t.cmd = .ok i ∧ phaseOf i t.seq = true) : Invariant t := by
  have hne : t.seq ≠ .recover := by rintro heq; rw [heq] at ht; cases ht
  obtain ⟨hfault, hvalid, herr, hcause, hfstat⟩ := hreg
  exact
    { csPhase := hcs
      busOrder := hbus
      faultPhase := by rw [hfault, h.quiet hs, decide_eq_false hne]
      faultByte := by simp [ht]
      causeLegal := by rw [herr, hcause]; exact h.causeLegal
      validByte := fun _ _ _ => by rw [hvalid, hfstat]; exact h.validSound hs
      phaseOfCommand := hcmd }

section
variable (hp : phaseIsPlain s.seq = true) (hholds : phaseHoldsCs s.seq = true)
include hp hholds

/-- After a transmit the transaction stays open for the next phase of the operation (rules R168, R171). -/
theorem Invariant.transmit (bytes : List Byte) {i : Instr} {p : Phase} (hhandles : phaseHandlesFault p = false)
    (hopen : phaseHoldsCs p = true) (hi : decode s.cmd = .ok i) (hof : phaseOf i p = true) :
    Invariant ((busTx bytes s).setSeq p) := by
  have hcs := h.asserted hholds
  refine h.move hp hhandles (by constructor <;> simp) ?_ ((h.ordered.busTx bytes hcs).congr (by simp) (by simp)) ?_
  · simpa [hopen] using hcs
  · exact .inr ⟨i, by simpa using hi, hof⟩

/-- A transmit that ends its transaction. -/
theorem Invariant.closed_after_busTx (bytes : List Byte) : BusClosed (csRelease (busTx bytes s)) := by
  have hcs := h.asserted hholds
  exact busClosed_csRelease (h.ordered.busTx bytes hcs) (by simpa using hcs) (by simpa using h.quiet hp)

/-- A receive ends its transaction. -/
theorem Invariant.closed_after_busRx (n : Nat) : BusClosed (csRelease (busRx n s)) := by
  have hcs := h.asserted hholds
  exact busClosed_csRelease (h.ordered.busRx n hcs) (by simpa using hcs) (by simpa using h.quiet hp)

end

end

/-! ### One tick keeps the invariant -/

section
variable {s : State} (h : Invariant s)
include h

theorem tickRdTx_invariant (hs : s.seq = .rdTx) : Invariant (tickRdTx s) := by
  unfold tickRdTx
  split
  · have hacq := h.held (.inl rfl) (by simp [hs]) (hs ▸ rfl)
    exact h.transmit (hs ▸ rfl) (hs ▸ rfl) [addrData] rfl rfl hacq rfl
  · exact (h.closed_after_busTx (hs ▸ rfl) (hs ▸ rfl) [addrData]).raiseTransport_invariant _

theorem tickRdRx_invariant (hs : s.seq = .rdRx) : Invariant (tickRdRx s) := by
  have hclosed := h.closed_after_busRx (hs ▸ rfl) (hs ▸ rfl) frameLen
  unfold tickRdRx
  split
  · have hacq := h.held (.inl rfl) (by simp [hs]) (hs ▸ rfl)
    exact h.move (hs ▸ rfl) rfl (by constructor <;> simp) (by simp [phaseHoldsCs])
      (hclosed.ordered.congr (by simp) (by simp)) (.inr ⟨.acq, by simpa using hacq, rfl⟩)
  · exact hclosed.raiseTransport_invariant _

/-- `FAULT_DET` is entered on a fault byte that is not zero (rule R163). -/
theorem tickDecode_invariant (hs : s.seq = .decode) : Invariant (tickDecode s) := by
  have hacq := h.held (.inl rfl) (by simp [hs]) (hs ▸ rfl)
  have hclosed : BusClosed (tickDecode s) := by
    apply (h.closed (hs ▸ rfl) (hs ▸ rfl)).congr <;> simp [tickDecode]
  refine hclosed.verdict_invariant (by simpa [tickDecode, CauseLegal] using h.causeLegal)
    (by simpa [tickDecode] using hacq) ?_
  cases hf : faulted (decodeFrame s) with
  | true => exact .inl ⟨by simp [tickDecode, hf], by simpa [faulted, tickDecode] using hf⟩
  | false => exact .inr (by simp [tickDecode, hf])

theorem tickFaultDet_invariant (hs : s.seq = .faultDet) : Invariant (tickFaultDet s) where
  csPhase := h.released (hs ▸ rfl)
  busOrder := h.ordered
  faultPhase := rfl
  faultByte _ := h.faultByte (hs ▸ rfl)
  causeLegal := h.causeLegal
  validByte _ hne := absurd rfl hne
  phaseOfCommand := .inr ⟨.acq, h.held (.inl rfl) (by simp [hs]) (hs ▸ rfl), rfl⟩

theorem tickRecover_invariant (hs : s.seq = .recover) : Invariant (tickRecover s) := by
  have hclosed := busClosed_recovery h.ordered (h.released (hs ▸ rfl)) addrCfgWr [recovCfg]
  have hacq := h.held (.inl rfl) (by simp [hs]) (hs ▸ rfl)
  obtain heq | ⟨k, heq⟩ := tickRecover_cases s <;> rw [heq]
  · exact BusClosed.verdict_invariant (hclosed.congr rfl rfl rfl) (by simpa [CauseLegal] using h.causeLegal)
      (by simpa using hacq) (.inr rfl)
  · exact hclosed.raiseRecoveryTransport_invariant k

theorem tickRcTx_invariant (hs : s.seq = .rcTx) : Invariant (tickRcTx s) := by
  have hplain : phaseIsPlain s.seq = true := hs ▸ rfl
  unfold tickRcTx
  split
  · have hrdcfg := h.held (.inr rfl) (by simp [hs]) (hs ▸ rfl)
    exact h.transmit hplain (hs ▸ rfl) [addrCfgRd] rfl rfl hrdcfg rfl
  · exact (h.closed_after_busTx hplain (hs ▸ rfl) [addrCfgRd]).lostConfiguration_invariant
      (by simpa [ValidSound] using h.validSound hplain) _

theorem tickRcRx_invariant (hs : s.seq = .rcRx) : Invariant (tickRcRx s) := by
  have hplain : phaseIsPlain s.seq = true := hs ▸ rfl
  have hclosed := h.closed_after_busRx hplain (hs ▸ rfl) 1
  have hvalid : ValidSound (csRelease (busRx 1 s)) := by simpa [ValidSound] using h.validSound hplain
  unfold tickRcRx
  split
  · exact hclosed.configuration_invariant hvalid _
  · exact hclosed.lostConfiguration_invariant hvalid _

/-- The end of a pure operation, from `IDLE` or from `EXEC`. -/
theorem writeResult_invariant (hp : phaseIsPlain s.seq = true) (hcs : phaseHoldsCs s.seq = false) (v : F) :
    Invariant ((writeResult v s).setSeq .idle) :=
  h.move hp rfl ⟨rfl, rfl, rfl, rfl, rfl⟩ (h.released hcs) (h.ordered.congr rfl rfl) (.inl rfl)

/-- The end of a configuration write, from `IDLE` or from `CFG_TX`. -/
theorem effInit_invariant (hp : phaseIsPlain s.seq = true) (hcs : phaseHoldsCs s.seq = false) (w : Wiring) :
    Invariant ((effInit w s).setSeq .idle) := by
  have hvalid : ValidSound (memWrite addrCfgWr [cfgByte w] s).2 := by simpa [ValidSound] using h.validSound hp
  exact ((h.closed hp hcs).memWrite addrCfgWr [cfgByte w]).report_invariant hvalid _

theorem tick_invariant {t : State} (ht : tick s = .next t) : Invariant t := by
  unfold tick at ht
  split at ht
  case h_2 hs =>
    obtain ⟨v, rfl⟩ := tickExec_next ht
    exact writeResult_invariant h (hs ▸ rfl) (hs ▸ rfl) v
  case h_9 hs =>
    obtain ⟨w, rfl⟩ := tickCfgTx_next ht
    exact effInit_invariant h (hs ▸ rfl) (hs ▸ rfl) w
  all_goals obtain rfl := Host.Outcome.next.inj ht
  · exact h
  · exact tickRdTx_invariant h ‹_›
  · exact tickRdRx_invariant h ‹_›
  · exact tickDecode_invariant h ‹_›
  · exact tickFaultDet_invariant h ‹_›
  · exact tickRecover_invariant h ‹_›
  · next hs => exact BusClosed.deliver_invariant ⟨h.released (hs ▸ rfl), h.ordered, by rw [h.faultPhase, hs]; rfl⟩
  · exact tickRcTx_invariant h ‹_›
  · exact tickRcRx_invariant h ‹_›

end

/-! ### Whole operations and host lines keep the invariant -/

theorem setSeq_self {s : State} {p : Phase} (h : s.seq = p) : s.setSeq p = s := by
  subst h
  rfl

section
variable {s : State} (h : Invariant s) (hs : s.seq = .idle)
include h hs

theorem effRdcfg_invariant : Invariant (effRdcfg s) := by
  have hclosed := (h.closed (hs ▸ rfl) (hs ▸ rfl)).memRead addrCfgRd 1
  have hvalid : ValidSound (memRead addrCfgRd 1 s).2 := by simpa [ValidSound] using h.validSound (hs ▸ rfl)
  have hend : (effRdcfg s).setSeq .idle = effRdcfg s := setSeq_self (effectOf_seq .rdcfg hs)
  rw [← hend]
  obtain ⟨bytes, -, heq⟩ | ⟨k, -, heq⟩ := effRdcfg_cases s <;> rw [heq]
  · exact hclosed.configuration_invariant hvalid _
  · exact hclosed.lostConfiguration_invariant hvalid k

/-- `ACQ`, outcome by outcome (rules R160, R167). -/
theorem effAcq_invariant : Invariant (effAcq s) := by
  have hread := (h.closed (hs ▸ rfl) (hs ▸ rfl)).memRead addrData frameLen
  obtain ⟨k, -, heq⟩ | ⟨bytes, s2, -, hs2, hends⟩ := effAcq_cases s
  · rw [heq]
    exact hread.raiseTransport_invariant k
  · have hdecoded : BusClosed s2 := hs2 ▸ hread.congr (by simp) (by simp) (by simp)
    have hraised : BusOrdered (s2.setFault true) := hdecoded.ordered.congr rfl rfl
    have hrecovered := busClosed_recovery hraised hdecoded.released addrCfgWr [recovCfg]
    obtain ⟨-, heq⟩ | ⟨-, -, heq⟩ | ⟨-, k, -, heq⟩ := hends <;> rw [heq]
    · exact hdecoded.deliver_invariant
    · exact hrecovered.deliver_invariant
    · exact hrecovered.raiseRecoveryTransport_invariant k

theorem effectOf_invariant (i : Instr) : Invariant (effectOf i s) := by
  obtain rfl | rfl | ⟨w, -, hw⟩ | hp := effectOf_kinds i
  · exact effAcq_invariant h hs
  · exact effRdcfg_invariant h hs
  · have hend := effInit_invariant h (hs ▸ rfl) (hs ▸ rfl) w
    rwa [← hw, setSeq_self (effectOf_seq i hs)] at hend
  · obtain ⟨v, hv⟩ := pureEffect_result hp s
    have hend := writeResult_invariant h (hs ▸ rfl) (hs ▸ rfl) v
    rwa [← hv, setSeq_self (effectOf_seq i hs)] at hend

/-- A change in `IDLE` that touches neither report, trace, line nor phase. -/
theorem Invariant.idle_congr {t : State} (hreg : SameReports s t) (hcs : t.cs = s.cs) (htrace : t.trace = s.trace)
    (hseq : t.seq = s.seq) : Invariant t := by
  have hidle := hseq.trans hs
  refine h.move (hs ▸ rfl) (hidle ▸ rfl) hreg ?_ (h.ordered.congr htrace hcs) (.inl hidle)
  rw [hcs, h.released (hs ▸ rfl), hidle]
  rfl

end

theorem Invariant.settled {s : State} (h : Invariant s) (hs : s.seq = .idle) : Settled s :=
  ⟨hs, h.released (hs ▸ rfl), h.quiet (hs ▸ rfl)⟩

/-- Settles O52: an operation completes in `IDLE` and keeps the invariant, which says there what settled says. -/
theorem everyOperationEndsSettled : Obligations.EveryOperationEndsSettled := by
  intro i s h hs
  have hend := effectOf_invariant h hs i
  exact ⟨effectOf i s, exec_idle i hs, hend.settled (effectOf_seq i hs), hend⟩

theorem decode_encode (i : Instr) : decode (encode i) = .ok i := by cases i <;> rfl

/-- Leaving `IDLE`, an operation opens a transaction exactly when its first phase holds one open. -/
theorem firstPhase_cases (i : Instr) (s : State) :
    ∃ p, p ≠ .idle ∧ phaseHandlesFault p = false ∧ phaseOf i p = true ∧
      ((phaseHoldsCs p = false ∧ firstPhase i s = s.setSeq p) ∨
        (phaseHoldsCs p = true ∧ firstPhase i s = (csAssert s).setSeq p)) := by
  cases i
  case acq => exact ⟨.rdTx, nofun, rfl, rfl, .inr ⟨rfl, rfl⟩⟩
  case rdcfg => exact ⟨.rcTx, nofun, rfl, rfl, .inr ⟨rfl, rfl⟩⟩
  case init2w | init3w | init4w => all_goals exact ⟨.cfgTx, nofun, rfl, rfl, .inl ⟨rfl, rfl⟩⟩
  all_goals exact ⟨.exec, nofun, rfl, rfl, .inl ⟨rfl, rfl⟩⟩

/-- Settles O50: the first phase opens a transaction or touches the phase alone. -/
theorem launchKeepsTheInvariant : Obligations.LaunchKeepsTheInvariant := by
  intro i s h hs
  have hcs := h.released (hs ▸ rfl)
  obtain ⟨p, hp, hplain, hof, ⟨hholds, heq⟩ | ⟨hholds, heq⟩⟩ := firstPhase_cases i (s.setCmd (encode i))
  all_goals
    refine ⟨_, if_pos hs, ?_⟩
    rw [heq]
    refine ⟨h.move (hs ▸ rfl) hplain (by constructor <;> simp) ?_ ?_ (.inr ⟨i, decode_encode i, hof⟩), hp⟩
  · simpa [hholds] using hcs
  · exact h.ordered.congr rfl rfl
  · simp [hholds]
  · have hset : BusOrdered (s.setCmd (encode i)) := h.ordered.congr rfl rfl
    exact (hset.csAssert hcs).congr rfl rfl

/-! ### The host's lines -/

theorem afterReset_invariant (s : State) : Invariant (afterReset s) :=
  BusClosed.invariant ⟨rfl, rfl, rfl⟩ rfl (causeLegal_ok rfl rfl) nofun

/-- Operands, configuration and the host's readings: all that a read or a write can change (rule R68). -/
def HostTouches (s t : State) : Prop :=
  t =
    { s with
      x0 := t.x0
      x1 := t.x1
      calOffset := t.calOffset
      calSlope := t.calSlope
      r0cfg := t.r0cfg
      curve := t.curve
      reads := t.reads }

theorem writeHostReg_touches {s t : State} {r : HostReg} {v : BitVec 64} (h : writeHostReg s r v = some t) :
    HostTouches s t := by
  unfold writeHostReg at h
  split at h
  case h_7 | h_8 =>
    all_goals
      split at h
      · obtain rfl := Option.some.inj h
        rfl
      · cases h
  all_goals
    obtain rfl := Option.some.inj h
    rfl

theorem HostTouches.trans {s t u : State} (h : HostTouches s t) (hu : HostTouches t u) : HostTouches s u := by
  unfold HostTouches at *
  rw [hu, h]

theorem hostWrite_touches {s t : State} {r : HostReg} {v : BitVec 64} (h : hostWrite r v s = .next t) :
    HostTouches s t := by
  obtain ⟨-, h⟩ := inIdle_next h
  split at h
  · next hw =>
    obtain rfl := Host.Outcome.next.inj h
    exact writeHostReg_touches hw
  · cases h

theorem hostRead_touches {s t : State} {r : HostReg} (h : hostRead r s = .next t) : HostTouches s t := by
  obtain ⟨-, h⟩ := inIdle_next h
  split at h
  · obtain rfl := Host.Outcome.next.inj h
    rfl
  · cases h

theorem hostCopy_touches {s t : State} {dst src : HostReg} (h : hostCopy dst src s = .next t) : HostTouches s t := by
  obtain ⟨-, h⟩ := inIdle_next h
  split at h
  · cases h
  · next v _ =>
    have hread : HostTouches s (s.pushRead src v) := rfl
    exact hread.trans (hostWrite_touches h)

theorem hostStart_next {s t : State} {w : BitVec 8} (h : hostStart w s = .next t) :
    ∃ i, t = effectOf i (s.setCmd w) := by
  obtain ⟨-, h⟩ := inIdle_next h
  split at h
  · next i _ => exact ⟨i, (exec_next h).2⟩
  · cases h

/-- What an action can do when it is answered: read and write registers, run an operation, reset. -/
theorem perform_cases {a : Action} {s t : State} (h : perform a s = .next t) :
    HostTouches s t ∨ (∃ w i, t = effectOf i (s.setCmd w)) ∨ t = afterReset s := by
  cases a with
  | write r v => exact .inl (hostWrite_touches h)
  | read r => exact .inl (hostRead_touches h)
  | start w => exact .inr (.inl ⟨w, hostStart_next h⟩)
  | copy dst src => exact .inl (hostCopy_touches h)
  | wordWrite index v =>
    simp only [perform, hostWordWrite] at h
    split at h
    · exact .inr (.inl ⟨_, hostStart_next h⟩)
    · split at h
      · exact .inl (hostWrite_touches h)
      · cases (inIdle_next h).2
  | wordRead index =>
    simp only [perform, hostWordRead] at h
    split at h
    · exact .inl (hostRead_touches h)
    · cases (inIdle_next h).2
  | reset =>
    simp only [perform, resetEvent] at h
    split at h
    · exact .inr (.inr (Host.Outcome.next.inj h).symm)
    · cases h

theorem perform_invariant {a : Action} {s t : State} (h : Invariant s) (hs : s.seq = .idle)
    (ht : perform a s = .next t) : Invariant t := by
  obtain htouch | ⟨w, i, rfl⟩ | rfl := perform_cases ht
  · rw [htouch]
    exact h.idle_congr hs ⟨rfl, rfl, rfl, rfl, rfl⟩ rfl rfl rfl
  · have hcmd : Invariant (s.setCmd w) := h.idle_congr hs ⟨rfl, rfl, rfl, rfl, rfl⟩ rfl rfl rfl
    exact effectOf_invariant hcmd hs i
  · exact afterReset_invariant s

/-- Settles O49: waiting changes nothing, a line is performed in `IDLE`, a tick moves on by one phase. -/
theorem stepKeepsTheInvariant : Obligations.StepKeepsTheInvariant := by
  intro s t h ht
  obtain ⟨-, -, hstep⟩ | ⟨a, rest, hs, -, hstep⟩ | ⟨-, hstep⟩ := step_cases s <;> rw [hstep] at ht
  · obtain rfl := Host.Outcome.next.inj ht
    exact h
  · have hline : Invariant (s.setProgram rest) := h.idle_congr hs ⟨rfl, rfl, rfl, rfl, rfl⟩ rfl rfl rfl
    exact perform_invariant hline hs ht
  · exact tick_invariant h ht

end Sys2Proof.Machine
end

section
/-! PROOFS. The two bus transactions (rules R52, R53): by the laws of the transaction, only the line, the trace and the
environment's answers change; what is left is the trace each outcome adds. -/

namespace Sys2Proof.Machine

open Sys2Proof.Spec

/-- A state that differs from `s` in the line, the trace and the environment's answers only is the end of a
transaction with the events its trace has more. -/
theorem eq_afterBus {s t : State} {ev : List BusEvent}
    (hframe : t = { s with cs := .released, trace := t.trace, script := t.script, draws := t.draws })
    (htrace : t.trace = s.trace ++ ev) : t = afterBus s t ev := by
  rw [afterBus, ← htrace]
  exact hframe

/-- The transmit fails: nothing is received (rule R52). -/
theorem memRead_transmit_fails (addr : Byte) (n : Nat) {s : State} {k : FailKind} (h : firstTx s = .fail k) :
    (memRead addr n s).1 = .fail k ∧
      (memRead addr n s).2.trace = s.trace ++ [.csAssert, .tx [addr] s.params.tmo (.fail k), .csRelease] := by
  have hreply : (nextReply s).outcome = .fail k := h
  obtain ⟨j, hj, heq⟩ | ⟨hok, -⟩ := memRead_cases addr n s
  · rw [nextReply_csAssert, hreply] at hj
    obtain rfl := Transfer.fail.inj hj
    rw [heq]
    exact ⟨rfl, by simp [hreply]⟩
  · rw [nextReply_csAssert, hreply] at hok
    cases hok

/-- The transmit succeeds: the result is the receive's, in the same scope (rule R52). -/
theorem memRead_transmit_ok (addr : Byte) (n : Nat) {s : State} (h : firstTx s = .ok) :
    (memRead addr n s).1 = secondRx n s ∧
      (memRead addr n s).2.trace = s.trace ++
        [.csAssert, .tx [addr] s.params.tmo .ok, .rx n s.params.tmo (secondRx n s), .csRelease] := by
  have hreply : (nextReply s).outcome = .ok := h
  obtain ⟨j, hj, -⟩ | ⟨-, heq⟩ := memRead_cases addr n s
  · rw [nextReply_csAssert, hreply] at hj
    cases hj
  · have hrx : rxResult n (busTx [addr] (csAssert s)) = secondRx n s := rxResult_congr n rfl rfl
    rw [heq]
    exact ⟨hrx, by simp [hreply, hrx]⟩

/-- Settles O34, by what the environment answers to the transmit. -/
theorem memReadTransaction : Obligations.MemReadTransaction := by
  intro addr n s
  refine ⟨fun k hfail => ?_, fun hok => ⟨?_, fun bytes hbytes => ?_⟩⟩
  · obtain ⟨hresult, htrace⟩ := memRead_transmit_fails addr n hfail
    exact Prod.ext hresult (eq_afterBus (memRead_frame addr n s) htrace)
  · obtain ⟨hresult, htrace⟩ := memRead_transmit_ok addr n hok
    exact Prod.ext hresult (eq_afterBus (memRead_frame addr n s) htrace)
  · obtain ⟨hresult, -⟩ := memRead_transmit_ok addr n hok
    exact rxResult_ok_length (hresult.symm.trans hbytes)

/-- Settles O35: assert, transmit and release are all that `MemWrite` does. -/
theorem memWriteTransaction : Obligations.MemWriteTransaction := by
  intro addr v s
  have hreply : nextReply (csAssert s) = nextReply s := nextReply_csAssert s
  have htrace : (memWrite addr v s).2.trace =
      s.trace ++ [.csAssert, .tx (addr :: v) s.params.tmo (firstTx s), .csRelease] := by
    simp [memWrite_eq, firstTx]
  exact Prod.ext (congrArg Reply.outcome hreply) (eq_afterBus (memWrite_frame addr v s) htrace)

end Sys2Proof.Machine
end

section
/-! PROOFS. The host's lines that start an operation (rules R62, R68, R96), one by one and as a program, and the word
indices of rule R68. -/

namespace Sys2Proof.Machine

open Sys2Proof.Spec

/-! ### Starting an operation -/

/-- Settles O5: the line is used up, and the start is the operation with the word in the command port. -/
theorem stepRunsTheDecodedOperation : Obligations.StepRunsTheDecodedOperation := by
  intro s w rest i hs hp hd _
  rw [step_line hs hp, perform_start (s := s.setProgram rest) hs hd]
  rfl

/-- Settles O6: the placed word is the next line, and it decodes to its operation. -/
theorem placedWordRunsNext : Obligations.PlacedWordRunsNext := by
  intro s i
  have hword : BitVec.ofNat 8 ((encode i).toNat % 2 ^ 8) = encode i := by
    rw [Nat.mod_eq_of_lt (encode i).isLt, BitVec.ofNat_toNat, BitVec.setWidth_eq]
  rw [step_withFetchWord, hword, perform_start (s := s.setSeq .idle) rfl (decode_encode i)]
  rfl

/-! ### A program of operations -/

/-- The state from which `runOps` runs its next operation: the line is used up, the port holds the word. -/
def takeLine (i : Instr) (s : State) : State := { s with cmd := encode i, program := s.program.tail }

theorem core_run_next {s t : State} (n : Nat) (h : step s = .next t) :
    Sys2Proof.core.run (n + 1) s = Sys2Proof.core.run n t := by
  have hstep : Sys2Proof.core.step s = .next t := h
  simp only [Host.Core.run, hstep]

theorem runOps_next {i : Instr} {s t : State} (l : List Instr) (h : exec i (takeLine i s) = .next t) :
    runOps (i :: l) s = runOps l t := by
  have hexec : exec i { s with cmd := encode i, program := s.program.tail } = .next t := h
  simp only [runOps, hexec]

/-- No operation touches the host's lines (rule R42). -/
theorem effectOf_program (i : Instr) (s : State) : (effectOf i s).program = s.program := by rw [effectOf_frame]

/-- The step that performs an operation line runs the operation as `runOps` does. -/
theorem step_operation_line {i : Instr} {s : State} {rest : List Action} (hs : s.seq = .idle)
    (hp : s.program = .start (encode i) :: rest) : step s = exec i (takeLine i s) := by
  rw [stepRunsTheDecodedOperation s (encode i) rest i hs hp (decode_encode i) (by cases i <;> rfl), takeLine, hp]
  rfl

/-- Settles O7, by induction on the operations: one step runs the first and leaves the lines of the others. -/
theorem programRunsItsOperationsInOrder : Obligations.ProgramRunsItsOperationsInOrder := by
  intro l rest
  induction l with
  | nil => exact fun s hs hp => ⟨s, rfl, rfl, hp, hs⟩
  | cons i l ih =>
    intro s hs hp
    have hexec : exec i (takeLine i s) = .next (effectOf i (takeLine i s)) := exec_idle i hs
    have hstep := (step_operation_line hs hp).trans hexec
    have hprogram : (effectOf i (takeLine i s)).program = (l.map fun i => Action.start (encode i)) ++ rest := by
      rw [effectOf_program, takeLine, hp]
      rfl
    obtain ⟨t, hrun, hops, hrest, hidle⟩ := ih _ (effectOf_seq i (s := takeLine i s) hs) hprogram
    exact ⟨t, (core_run_next l.length hstep).trans hrun, (runOps_next l hexec).trans hops, hrest, hidle⟩

/-! ### Word indices -/

theorem regOfWord_x {i : Nat} (h : i < 4) : regOfWord i = some (.x i) := if_pos h

theorem regOfWord_c {j : Nat} (h : j < 10) : regOfWord (8 + j) = some (.c j) := by
  rw [regOfWord, if_neg (by omega), if_pos (by omega), Nat.add_sub_cancel_left]

/-- The indices between and past the registers are of none. -/
theorem regOfWord_gap {n : Nat} (h : 4 ≤ n) (hgap : n < 8 ∨ 18 ≤ n) : regOfWord n = none := by
  rw [regOfWord, if_neg (by omega), if_neg (by omega)]

theorem perform_wordRead {n : Nat} {r : HostReg} (h : regOfWord n = some r) (s : State) :
    perform (.wordRead n) s = perform (.read r) s := by simp only [perform, hostWordRead, h]

/-- The command port stands at no register's index. -/
theorem perform_wordWrite {n : Nat} {r : HostReg} (h : regOfWord n = some r) (v : BitVec 64) (s : State) :
    perform (.wordWrite n v) s = perform (.write r v) s := by
  have hport : n ≠ cmdWord := by rintro rfl; cases h
  simp only [perform, hostWordWrite, if_neg hport, h]

theorem perform_wordRead_missing {n : Nat} {s : State} (hs : s.seq = .idle) (h : regOfWord n = none) :
    perform (.wordRead n) s = .refused (.noSuchWord n) := by simp only [perform, hostWordRead, h, inIdle_idle hs]

theorem perform_wordWrite_missing {n : Nat} {s : State} (hs : s.seq = .idle) (h : regOfWord n = none)
    (hport : n ≠ cmdWord) (v : BitVec 64) : perform (.wordWrite n v) s = .refused (.noSuchWord n) := by
  simp only [perform, hostWordWrite, if_neg hport, h, inIdle_idle hs]

/-- A write at the command port's index is the start of the low 8 bits. -/
theorem perform_wordWrite_port (v : BitVec 64) (s : State) :
    perform (.wordWrite cmdWord v) s = perform (.start (v.extractLsb' 0 8)) s := by
  have hlow : v.setWidth 8 = v.extractLsb' 0 8 := BitVec.setWidth_eq_extractLsb' (by decide)
  simp only [perform, hostWordWrite, if_true, hlow]

/-- Settles O59, range of indices by range. -/
theorem wordIndexMap : Obligations.WordIndexMap := by
  intro s v
  refine ⟨fun i hi => ?_, fun j hj => ?_, perform_wordWrite_port v s, fun hs n hn hgap => ?_⟩
  · exact ⟨perform_wordWrite (regOfWord_x hi) v s, perform_wordRead (regOfWord_x hi) s⟩
  · exact ⟨perform_wordWrite (regOfWord_c hj) v s, perform_wordRead (regOfWord_c hj) s⟩
  · have hnone := regOfWord_gap hn hgap
    exact ⟨perform_wordRead_missing hs hnone, fun hport => perform_wordWrite_missing hs hnone hport v⟩

end Sys2Proof.Machine
end

section
/-! PROOFS. An operation in flight ends (rule R225). From a state of the invariant every tick answers, and each tick
lowers the number of phases left, which is six at most. -/

namespace Sys2Proof.Machine

/-! ### Every tick answers -/

/-- `EXEC` is a phase of the pure operations only (rules R110, R130, R150, R151). -/
theorem pureEffect_isSome_of_exec {i : Instr} (h : phaseOf i .exec = true) : (pureEffect i).isSome = true := by
  revert h
  cases i <;> decide

/-- `CFG_TX` is a phase of the configuration writes only (rule R170). -/
theorem initWiring_isSome_of_cfgTx {i : Instr} (h : phaseOf i .cfgTx = true) : (initWiring i).isSome = true := by
  revert h
  cases i <;> decide

section
variable {s : State} (h : Invariant s)
include h

/-- In flight the command port holds an operation the phase belongs to. -/
theorem Invariant.operation_in_flight (hs : s.seq ≠ .idle) : ∃ i, decode s.cmd = .ok i ∧ phaseOf i s.seq = true :=
  h.phaseOfCommand.resolve_left hs

theorem tickExec_answers (hs : s.seq = .exec) : ∃ t, tickExec s = .next t := by
  obtain ⟨i, hd, hof⟩ := h.operation_in_flight (by simp [hs])
  obtain ⟨f, hf⟩ := Option.isSome_iff_exists.mp (pureEffect_isSome_of_exec (hs ▸ hof))
  exact ⟨(f s).setSeq .idle, by simp only [tickExec, heldEffect, hd, hf]⟩

theorem tickCfgTx_answers (hs : s.seq = .cfgTx) : ∃ t, tickCfgTx s = .next t := by
  obtain ⟨i, hd, hof⟩ := h.operation_in_flight (by simp [hs])
  obtain ⟨w, hw⟩ := Option.isSome_iff_exists.mp (initWiring_isSome_of_cfgTx (hs ▸ hof))
  exact ⟨(effInit w s).setSeq .idle, by simp only [tickCfgTx, heldWiring, hd, hw]⟩

/-- The two phases that need the command port find their operation there; the others always answer. -/
theorem Invariant.tick_answers : ∃ t, tick s = .next t := by
  unfold tick
  split
  case h_2 hs => exact tickExec_answers h hs
  case h_9 hs => exact tickCfgTx_answers h hs
  all_goals exact ⟨_, rfl⟩

end

/-! ### Every tick is one phase less -/

/-- How many phases stand before `IDLE` at most (rules R168, R170, R171). -/
def phasesLeft : Phase → Nat
  | .idle => 0
  | .exec | .compute | .cfgTx | .rcRx => 1
  | .recover | .rcTx => 2
  | .faultDet => 3
  | .decode => 4
  | .rdRx => 5
  | .rdTx => 6

theorem phasesLeft_le_six (p : Phase) : phasesLeft p ≤ 6 := by cases p <;> decide

theorem eq_idle_of_phasesLeft_zero {p : Phase} (h : phasesLeft p = 0) : p = .idle := by
  revert h
  cases p <;> decide

section
variable (s : State)

theorem tickRdTx_seq : (tickRdTx s).seq = .rdRx ∨ (tickRdTx s).seq = .idle := by
  unfold tickRdTx
  split <;> simp

theorem tickRdRx_seq : (tickRdRx s).seq = .decode ∨ (tickRdRx s).seq = .idle := by
  unfold tickRdRx
  split <;> simp

theorem tickDecode_seq : (tickDecode s).seq = .faultDet ∨ (tickDecode s).seq = .compute := by
  cases hf : faulted (decodeFrame s) <;> simp [tickDecode, hf]

theorem tickFaultDet_seq : (tickFaultDet s).seq = .recover := rfl

theorem tickRecover_seq : (tickRecover s).seq = .compute ∨ (tickRecover s).seq = .idle := by
  obtain h | ⟨k, h⟩ := tickRecover_cases s <;> rw [h] <;> simp

theorem tickRcTx_seq : (tickRcTx s).seq = .rcRx ∨ (tickRcTx s).seq = .idle := by
  unfold tickRcTx
  split <;> simp

theorem tickRcRx_seq : (tickRcRx s).seq = .idle := by
  unfold tickRcRx
  split <;> rfl

end

/-- The end of a tick stands nearer to `IDLE` when each phase it can be does. -/
theorem phasesLeft_lt_of_or {p q r : Phase} {n : Nat} (h : p = q ∨ p = r) (hq : phasesLeft q < n)
    (hr : phasesLeft r < n) : phasesLeft p < n := by
  obtain rfl | rfl := h
  · exact hq
  · exact hr

theorem phasesLeft_tick_lt {s t : State} (hs : s.seq ≠ .idle) (h : tick s = .next t) :
    phasesLeft t.seq < phasesLeft s.seq := by
  unfold tick at h
  split at h
  case h_1 hidle => exact absurd hidle hs
  case h_2 hp =>
    obtain ⟨v, rfl⟩ := tickExec_next h
    rw [hp]
    exact Nat.zero_lt_one
  case h_9 hp =>
    obtain ⟨w, rfl⟩ := tickCfgTx_next h
    rw [hp]
    exact Nat.zero_lt_one
  all_goals
    obtain rfl := Host.Outcome.next.inj h
    rw [‹s.seq = _›]
  · exact phasesLeft_lt_of_or (tickRdTx_seq s) (by decide) (by decide)
  · exact phasesLeft_lt_of_or (tickRdRx_seq s) (by decide) (by decide)
  · exact phasesLeft_lt_of_or (tickDecode_seq s) (by decide) (by decide)
  · rw [tickFaultDet_seq]
    decide
  · exact phasesLeft_lt_of_or (tickRecover_seq s) (by decide) (by decide)
  · rw [deliver_seq]
    decide
  · exact phasesLeft_lt_of_or (tickRcTx_seq s) (by decide) (by decide)
  · rw [tickRcRx_seq]
    decide

/-! ### Ticks until `IDLE` -/

theorem ticks_idle (n : Nat) {s : State} (hs : s.seq = .idle) : ticks n s = .next s := by
  cases n with
  | zero => rfl
  | succ n => exact if_pos hs

theorem ticks_succ {n : Nat} {s t : State} (hs : s.seq ≠ .idle) (h : tick s = .next t) :
    ticks (n + 1) s = ticks n t := by simp only [ticks, if_neg hs, h]

/-- As many ticks as phases are left settle an operation, by induction on the ticks. -/
theorem Invariant.ticks_settle {n : Nat} {s : State} (h : Invariant s) (hn : phasesLeft s.seq ≤ n) :
    ∃ t, ticks n s = .next t ∧ Settled t := by
  induction n generalizing s with
  | zero => exact ⟨s, rfl, h.settled (eq_idle_of_phasesLeft_zero (Nat.le_zero.mp hn))⟩
  | succ n ih =>
    by_cases hs : s.seq = .idle
    · exact ⟨s, ticks_idle (n + 1) hs, h.settled hs⟩
    · obtain ⟨t, ht⟩ := h.tick_answers
      have hless := phasesLeft_tick_lt hs ht
      rw [ticks_succ hs ht]
      exact ih (tick_invariant h ht) (by omega)

/-- Settles O47: no phase stands more than six before `IDLE`. -/
theorem operationInFlightEnds : Obligations.OperationInFlightEnds :=
  fun s h => h.ticks_settle (phasesLeft_le_six s.seq)

end Sys2Proof.Machine
end

section
/-! PROOFS. The command word (rules R80 to R84): which words the decoder reads, told by their fields and by the list of
rule R81; that it undoes the encoder; and the command bytes of a program (rules R95, R96). -/

namespace Sys2Proof.Machine

open Sys2Proof.Spec

/-! ### The fields as numbers (rule R80) -/

theorem opField_toNat (w : BitVec 8) : (opField w).toNat = w.toNat / 16 := by
  have h := w.isLt
  rw [opField, BitVec.extractLsb'_toNat, Nat.shiftRight_eq_div_pow]
  omega

theorem zField_eq_zero_iff (w : BitVec 8) : zField w = 0#2 ↔ w.toNat / 4 % 4 = 0 := by
  rw [← BitVec.toNat_inj, zField, BitVec.extractLsb'_toNat, Nat.shiftRight_eq_div_pow]
  rfl

theorem selField_toNat (w : BitVec 8) : (selField w).toNat = w.toNat % 4 := by
  rw [selField, BitVec.extractLsb'_toNat, Nat.shiftRight_zero]

/-! ### Which words decode (rules R81, R84) -/

theorem decodePlain_decodes_iff (sel : BitVec 2) (i : Instr) :
    (∃ j, decodePlain sel i = .ok j) ↔ sel.toNat = 0 := by
  unfold decodePlain
  split
  · next h => exact iff_of_true ⟨i, rfl⟩ (congrArg BitVec.toNat h)
  · next h => exact iff_of_false nofun (by bv_omega)

/-- Wiring code 3 alone is reserved (rule R83). -/
theorem wiringOfCode_isSome (c : BitVec 2) : (Wiring.ofCode c).isSome = decide (c.toNat ≠ 3) := by
  revert c
  decide

theorem decodeInit_decodes_iff (sel : BitVec 2) : (∃ j, decodeInit sel = .ok j) ↔ sel.toNat ≠ 3 := by
  rw [← decide_eq_true_iff (p := sel.toNat ≠ 3), ← wiringOfCode_isSome, decodeInit]
  cases Wiring.ofCode sel with
  | some v => exact iff_of_true ⟨Instr.initOf v, rfl⟩ rfl
  | none => exact iff_of_false nofun nofun

/-- A word decodes when its group exists, `z` is 0 and `sel` is one the group has, group by group. -/
theorem decode_decodes_iff (w : BitVec 8) :
    (∃ i, decode w = .ok i) ↔
      (opField w).toNat < 7 ∧ zField w = 0#2 ∧
        ((opField w).toNat ∈ [2, 3, 4, 6] → (selField w).toNat = 0) ∧
        ((opField w).toNat = 5 → (selField w).toNat ≠ 3) := by
  unfold decode
  generalize (opField w).toNat = op
  split
  · next hop => exact iff_of_false nofun (by omega)
  split
  · next hz => exact iff_of_false nofun fun ⟨_, hz0, _⟩ => hz hz0
  next hop hz =>
  rw [ne_eq, not_not] at hz
  have hop : op < 7 := not_le.mp hop
  interval_cases op
  · exact iff_of_true ⟨_, rfl⟩ (by simp [hz])
  · exact iff_of_true ⟨_, rfl⟩ (by simp [hz])
  · simp [hz, decodePlain_decodes_iff]
  · simp [hz, decodePlain_decodes_iff]
  · simp [hz, decodePlain_decodes_iff]
  · simp [hz, decodeInit_decodes_iff]
  · simp [hz, decodePlain_decodes_iff]

theorem decode_decodes_iff_legal (w : BitVec 8) : (∃ i, decode w = .ok i) ↔ w ∈ legalCommands := by
  rw [← List.contains_iff_mem, ← decode_isSome]
  cases decode w with
  | ok i => exact iff_of_true ⟨i, rfl⟩ rfl
  | error e => exact iff_of_false nofun nofun

/-- Settles O2: rule R84's list is what `decode_decodes_iff` excludes, and what does not decode is refused. -/
theorem reservedCommandWordsAreRefused : Obligations.ReservedCommandWordsAreRefused := by
  intro w
  refine ⟨?_, not_congr (decode_decodes_iff_legal w), fun s hs hno => ?_⟩
  · have h53 : w = 0x53#8 ↔ w.toNat = 0x53 := by bv_omega
    rw [decode_decodes_iff, opField_toNat, zField_eq_zero_iff, selField_toNat, h53]
    simp only [List.mem_cons, List.not_mem_nil, or_false]
    omega
  · cases hd : decode w with
    | ok i => exact absurd ⟨i, hd⟩ hno
    | error e => exact perform_reserved hs hd

/-! ### The decoder and the encoder -/

/-- Settles O1: fifteen closed cases, each evaluated. -/
theorem decoderReadsTheOpcodeTable : Obligations.DecoderReadsTheOpcodeTable := by
  unfold Obligations.DecoderReadsTheOpcodeTable
  decide

theorem map_encode_decode_of_legal : ∀ w ∈ legalCommands, (decode w).map encode = .ok w := by decide

/-- What decodes is one of the fifteen legal words, and those encode back. -/
theorem encode_of_decode {w : BitVec 8} {i : Instr} (h : decode w = .ok i) : encode i = w := by
  have hback := map_encode_decode_of_legal w ((decode_decodes_iff_legal w).mp ⟨i, h⟩)
  rw [h] at hback
  exact Except.ok.inj hback

/-- Settles O3. -/
theorem decodeAndEncodeAreInverse : Obligations.DecodeAndEncodeAreInverse :=
  ⟨decode_encode, fun _ _ => encode_of_decode⟩

/-! ### The command bytes of a program (rules R95, R96) -/

theorem commandBytes_eq_startWords (p : List Action) : commandBytes p = startWords p := by
  induction p with
  | nil => rfl
  | cons a p ih =>
    cases a
    case start w => exact congrArg (w :: ·) ih
    all_goals exact ih

theorem start_mem_of_mem_startWords {p : List Action} {w : BitVec 8} (h : w ∈ startWords p) : .start w ∈ p := by
  rw [← commandBytes_eq_startWords, commandBytes, List.mem_flatMap] at h
  obtain ⟨a, ha, hw⟩ := h
  cases a
  case start v => exact List.mem_singleton.mp hw ▸ ha
  all_goals cases hw

theorem exists_map_encode_eq {ws : List (BitVec 8)} (h : ∀ w ∈ ws, w ∈ legalCommands) :
    ∃ l : List Instr, l.map encode = ws := by
  have hrange : ws ∈ Set.range (List.map encode) := by
    rw [Set.range_list_map]
    intro w hw
    obtain ⟨i, hi⟩ := (decode_decodes_iff_legal w).mpr (h w hw)
    exact ⟨i, encode_of_decode hi⟩
  exact hrange

/-- Settles O4: a well-formed operation line starts a legal word, and a legal word is an operation's encoding. -/
theorem programBytesDecodeToItsOperations : Obligations.ProgramBytesDecodeToItsOperations := by
  intro p hwf
  have hlegal : ∀ w ∈ startWords p, w ∈ legalCommands := fun w hw =>
    List.contains_iff_mem.mp (hwf (.start w) (start_mem_of_mem_startWords hw))
  obtain ⟨l, hl⟩ := exists_map_encode_eq hlegal
  refine ⟨commandBytes_eq_startWords p, l, hl.symm, ?_⟩
  rw [← hl, List.map_map]
  exact List.map_congr_left fun i _ => decode_encode i

end Sys2Proof.Machine
end

section
/-! PROOFS. The data of a reading: the fields of the frame by integer arithmetic (rule R86), and that an RTD code is a
number of format `F` (rule R90), because rounding keeps what a pattern stands for exactly. -/

namespace Sys2Proof.Machine

open Sys2Proof.Spec

/-! ### The fields of the frame (rule R86) -/

theorem toNat_append_byte (a b : Byte) : (a ++ b).toNat = a.toNat * 256 + b.toNat := by
  rw [BitVec.toNat_append, ← Nat.shiftLeft_add_eq_or_of_lt b.isLt, Nat.shiftLeft_eq]

/-- Two bytes without their last bit: the form of `RTDCODE` and `HFT`. -/
theorem toNat_upper_fifteen_bits (a b : Byte) :
    (((a ++ b) >>> 1).setWidth 15).toNat = (a.toNat * 256 + b.toNat) / 2 := by
  have ha := a.isLt
  have hb := b.isLt
  rw [BitVec.toNat_setWidth, BitVec.toNat_ushiftRight, toNat_append_byte, Nat.shiftRight_eq_div_pow]
  omega

theorem upper_fifteen_bits_flip_last (a b : Byte) :
    ((a ++ (b ^^^ 1#8)) >>> 1).setWidth 15 = ((a ++ b) >>> 1).setWidth 15 := by
  have hflip : (b ^^^ 1#8).toNat / 2 = b.toNat / 2 := by
    rw [BitVec.toNat_xor, Nat.xor_div_two]
    exact Nat.xor_zero _
  apply BitVec.eq_of_toNat_eq
  rw [toNat_upper_fifteen_bits, toNat_upper_fifteen_bits]
  omega

/-- Settles O36. -/
theorem frameFieldsAreExtracted : Obligations.FrameFieldsAreExtracted := by
  intro f
  refine ⟨toNat_upper_fifteen_bits f.b0 f.b1, toNat_upper_fifteen_bits f.b2 f.b3, toNat_append_byte f.b4 f.b5, rfl, ?_⟩
  rintro g rfl
  exact ⟨upper_fifteen_bits_flip_last f.b0 f.b1, upper_fifteen_bits_flip_last f.b2 f.b3, rfl, rfl⟩

/-! ### Whole numbers that `F` holds exactly (rules R10, R90) -/

/-- An amount that is a pattern's own is rounded to that pattern: none other lies at distance 0. -/
theorem roundMag_exact {n d m : Nat} (hd : 0 < d) (hm : m < infMag) (h : n = unitsOf m * d) : roundMag n d = m := by
  obtain ⟨r, hr, hround⟩ := roundsMag_roundMag (K := ℚ) n hd
  have hdQ : (d : ℚ) ≠ 0 := Nat.cast_ne_zero.mpr hd.ne'
  have hx : (n : ℚ) / d = unitsOf m := by rw [h, Nat.cast_mul, mul_div_cancel_right₀ _ hdQ]
  have hnear := hr.nearest m
  rw [hx, sub_self, abs_zero, abs_nonpos_iff, sub_eq_zero, Nat.cast_inj] at hnear
  rw [hround, unitsOf_strictMono.injective hnear, min_eq_left hm.le]

/-- A whole number of at most 53 bits, shifted up until it fills the significand, is what a pattern stands for. -/
theorem exists_unitsOf_eq_nat {n : Nat} (h0 : n ≠ 0) (h : n < 2 ^ 53) :
    ∃ m < infMag, unitsOf m = n * 2 ^ 1074 := by
  have hlog : Nat.log2 n < 53 := (Nat.log2_lt h0).mpr h
  have hlow := Nat.log2_self_le h0
  have hhigh : n < 2 ^ (Nat.log2 n + 1) := Nat.lt_log2_self
  generalize Nat.log2 n = k at hlog hlow hhigh
  have hbelow : n * 2 ^ (52 - k) ≤ 2 ^ 53 := by
    calc n * 2 ^ (52 - k) ≤ 2 ^ (k + 1) * 2 ^ (52 - k) := Nat.mul_le_mul_right _ hhigh.le
      _ = 2 ^ 53 := by rw [← pow_add]; congr 1; omega
  have hfull : 2 ^ 52 ≤ n * 2 ^ (52 - k) := by
    calc 2 ^ 52 = 2 ^ k * 2 ^ (52 - k) := by rw [← pow_add]; congr 1; omega
      _ ≤ n * 2 ^ (52 - k) := Nat.mul_le_mul_right _ hlow
  refine ⟨(1022 + k) * 2 ^ 52 + n * 2 ^ (52 - k), ?_, ?_⟩
  · unfold infMag
    omega
  · rw [unitsOf_significand hbelow (.inr hfull), mul_assoc, ← pow_add]
    congr 2
    omega

theorem value_pack_false {m : Nat} (h : m < 2 ^ 63) : value (pack false m) = (unitsOf m : ℚ) / 2 ^ 1074 := by
  rw [value_eq_signed, abs_value, magOf_pack _ h, negOf_pack _ h]
  rfl

theorem fOfNat_exact {n : Nat} (h : n < 2 ^ 53) : finite (fOfNat n) ∧ value (fOfNat n) = n := by
  suffices hpat : ∃ m < infMag, fOfNat n = pack false m ∧ unitsOf m = n * 2 ^ 1074 by
    obtain ⟨m, hm, hpack, hunits⟩ := hpat
    have hmag : m < 2 ^ 63 := hm.trans infMag_lt
    have hT : (2 : ℚ) ^ 1074 ≠ 0 := by positivity
    rw [hpack, finite, magOf_pack _ hmag, value_pack_false hmag, hunits, Nat.cast_mul, Nat.cast_pow, Nat.cast_ofNat]
    exact ⟨hm, mul_div_cancel_right₀ _ hT⟩
  unfold fOfNat
  split
  · next h0 => exact ⟨0, by decide, rfl, by rw [h0, Nat.zero_mul, unitsOf_zero]⟩
  · next h0 =>
    obtain ⟨m, hm, hunits⟩ := exists_unitsOf_eq_nat h0 h
    refine ⟨m, hm, ?_, hunits⟩
    rw [fOfRatio, roundMag_exact one_pos hm (by rw [hunits, mul_one])]

/-- Settles O28: a code has 15 bits. -/
theorem codeConversionIsExact : Obligations.CodeConversionIsExact := fun code =>
  fOfNat_exact (code.isLt.trans (by decide))

end Sys2Proof.Machine
end

section
/-! PROOFS. The forward conversions against the spec's trees (rules R110 to R117). The model's literals are the spec's
patterns (`fOne_eq` and its like), so the model's trees are the spec's. -/

namespace Sys2Proof.Machine

open Sys2Proof.Spec (one two four hundred fiveHundred thousand ts100 ts500 ts1000 x0Nickel codeDivisor r2t curveOf)

/-! ### Literals (rule R7) -/

theorem fTwo_eq : fTwo = two := by decide +kernel

theorem fFour_eq : fFour = four := by decide +kernel

theorem fFiveHundred_eq : fFiveHundred = fiveHundred := by decide +kernel

theorem fThousand_eq : fThousand = thousand := by decide +kernel

theorem niTs100_eq : niTs100 = ts100 := by decide +kernel

theorem niTs500_eq : niTs500 = ts500 := by decide +kernel

theorem niTs1000_eq : niTs1000 = ts1000 := by decide +kernel

theorem niX0_eq : niX0 = x0Nickel := by decide +kernel

theorem codeDiv_eq : codeDiv = codeDivisor := by decide +kernel

/-! ### The nickel threshold (rule R117) -/

theorem tempStart_eq_spec (r0 : F) : tempStart r0 = Sys2Proof.Spec.tempStart r0 := by
  rw [tempStart, Sys2Proof.Spec.tempStart, fHundred_eq, fFiveHundred_eq, fThousand_eq, niTs100_eq, niTs500_eq,
    niTs1000_eq]
  rfl

/-- Comparing equal to a number that is not zero is being that pattern. -/
theorem fEq_eq_false {a b : F} (hb : magOf b ≠ 0) (h : a ≠ b) : fEq a b = false := by
  rw [← Bool.not_eq_true, fEq]
  intro heq
  exact h (eq_of_orderKey_eq (of_decide_eq_true (Bool.and_eq_true_iff.mp heq).2) hb)

theorem tempStart_unrecognised {r0 : F} (h1 : r0 ≠ hundred) (h5 : r0 ≠ fiveHundred) (h10 : r0 ≠ thousand) :
    tempStart r0 = 0#64 := by
  rw [tempStart_eq_spec, Sys2Proof.Spec.tempStart, fEq_eq_false (by decide) h1, fEq_eq_false (by decide) h5,
    fEq_eq_false (by decide) h10]
  rfl

/-- Settles O26: the three entries are evaluated, and no other pattern compares equal to one of their references. -/
theorem nickelThresholdLookup : Obligations.NickelThresholdLookup :=
  ⟨by decide +kernel, by decide +kernel, by decide +kernel, fun _ => tempStart_unrecognised⟩

/-! ### Trees (rules R112 to R116) -/

theorem poly4_eq_spec (k : QuarticCoeffs) (x : F) : poly4 k x = Sys2Proof.Spec.poly4 k.d1 k.d2 k.d3 k.d4 x := by
  rw [poly4, Sys2Proof.Spec.poly4]

theorem poly3_eq_spec (k : CubicCoeffs) (x : F) : poly3 k x = Sys2Proof.Spec.poly3 k.d1 k.d2 k.d3 x := by
  rw [poly3, Sys2Proof.Spec.poly3]

theorem qroot_eq_spec (a b w : F) : qroot a b w = Sys2Proof.Spec.qroot a b w := by
  rw [qroot, Sys2Proof.Spec.qroot, radicand, Sys2Proof.Spec.rad, fTwo_eq, fFour_eq, fOne_eq]

/-- The model's `R2T` functions are the spec's (rules R112 to R115). -/
theorem curveTemp_eq_r2t (k : CoeffTable) (c : Curve) (r r0 : F) : curveTemp k c r r0 = r2t k c r r0 := by
  cases c <;>
    simp only [curveTemp, platinumTemp, copperTemp, nickelTemp, ratio, r2t, poly4_eq_spec, poly3_eq_spec,
      qroot_eq_spec, tempStart_eq_spec, fOne_eq, fHundred_eq, niX0_eq]

/-! ### The operations (rule R110) -/

/-- An operation that writes a result completes with it in `x[2]`, and changes nothing else. -/
theorem exec_writes_value {i : Instr} {s : State} {v : F} (hs : s.seq = .idle) (he : effectOf i s = writeResult v s) :
    ∃ t, exec i s = .next t ∧ t = { s with x2 := t.x2, draws := t.draws } ∧ SameF t.x2 v := by
  refine ⟨writeResult v s, ?_, writeResult_eq v s, settle_cases s.draws v⟩
  rw [exec_idle i hs, he]

/-- `R2T` writes the value of its curve's function. -/
theorem effectOf_r2t (c : Curve) (s : State) :
    effectOf (.r2t c) s = writeResult (curveTemp s.params.k c s.x0 s.x1) s := by
  cases c <;> rw [curveTemp] <;> rfl

theorem r2t_result (c : Curve) {s : State} (hs : s.seq = .idle) :
    ∃ t, exec (.r2t c) s = .next t ∧ t = { s with x2 := t.x2, draws := t.draws } ∧
      SameF t.x2 (r2t s.params.k c s.x0 s.x1) :=
  exec_writes_value hs (curveTemp_eq_r2t s.params.k c s.x0 s.x1 ▸ effectOf_r2t c s)

/-- Settles O12, as every forward conversion. -/
theorem forwardPt385Result : Obligations.ForwardPt385Result := fun _ => r2t_result .pt385

/-- Settles O13, as every forward conversion. -/
theorem forwardPt391Result : Obligations.ForwardPt391Result := fun _ => r2t_result .pt391

/-- Settles O14, as every forward conversion. -/
theorem forwardCu428Result : Obligations.ForwardCu428Result := fun _ => r2t_result .cu428

/-- Settles O15, as every forward conversion. -/
theorem forwardNi617Result : Obligations.ForwardNi617Result := fun _ => r2t_result .ni617

/-! ### Published vectors -/

/-- Settles O27: eight closed evaluations. -/
theorem publishedVectorsHold : Obligations.PublishedVectorsHold :=
  ⟨by decide +kernel, by decide +kernel, by decide +kernel, by decide +kernel, by decide +kernel, by decide +kernel,
    by decide +kernel, by decide +kernel⟩

end Sys2Proof.Machine
end

section
/-! PROOFS. NaN and infinite ratios in the forward conversions (rules R116, R120). A ratio past the range sends each
tree into a difference of infinities or under a root of `-inf`, but for copper's linear branch, which keeps the
infinity. -/

namespace Sys2Proof.Machine

open Sys2Proof.Spec (one four infinity finite infinite usualSigns)

/-! ### A NaN ratio -/

/-- The ratio stands in every branch of every tree. -/
theorem curveTemp_nan_ratio (k : CoeffTable) (c : Curve) {r r0 : F} (h : fIsNaN (fDiv r r0) = true) :
    curveTemp k c r r0 = qnan := by
  cases c <;>
    simp [curveTemp, platinumTemp, copperTemp, nickelTemp, ratio, fSub_nan_left _ h, qroot, radicand,
      fSub_nan_right _ h]

/-! ### Numbers of a known sign -/

/-- Not NaN, not a zero, and of the sign `neg`. -/
structure NonzeroOfSign (neg : Bool) (a : F) : Prop where
  notNaN : fIsNaN a = false
  nonzero : magOf a ≠ 0
  sign : negOf a = neg

theorem nonzeroOfSign_infinity (neg : Bool) : NonzeroOfSign neg (infinity neg) := by
  cases neg <;> exact ⟨by decide, by decide, by decide⟩

theorem infinite_infinity (neg : Bool) : infinite (infinity neg) := by cases neg <;> rfl

theorem nonzeroOfSign_four : NonzeroOfSign false four := ⟨by decide, by decide, by decide⟩

theorem fLt_notNaN {a b : F} (h : fLt a b = true) : fIsNaN a = false ∧ fIsNaN b = false := by
  rw [← Bool.not_eq_true, ← Bool.not_eq_true]
  exact ⟨fun ha => by simp [fLt_nan_left b ha] at h, fun hb => by simp [fLt_nan_right a hb] at h⟩

theorem orderKey_zero {a : F} (h : magOf a = 0) : orderKey a = 0 := by simp [orderKey, h]

theorem orderKey_neg_iff (a : F) : orderKey a < 0 ↔ negOf a = true ∧ magOf a ≠ 0 := by
  rw [orderKey]
  cases negOf a
  · simp
  · simp only [if_true, true_and]
    omega

theorem orderKey_pos_iff (a : F) : 0 < orderKey a ↔ negOf a = false ∧ magOf a ≠ 0 := by
  rw [orderKey]
  cases negOf a
  · simp only [Bool.false_eq_true, if_false, true_and]
    omega
  · simp

theorem nonzeroOfSign_of_lt_zero {a : F} (h : fLt a 0#64 = true) : NonzeroOfSign true a := by
  obtain ⟨ha, h0⟩ := fLt_notNaN h
  rw [fLt_iff ha h0, orderKey_zero (a := 0#64) (by decide), orderKey_neg_iff] at h
  exact ⟨ha, h.2, h.1⟩

theorem nonzeroOfSign_of_zero_lt {a : F} (h : fLt 0#64 a = true) : NonzeroOfSign false a := by
  obtain ⟨h0, ha⟩ := fLt_notNaN h
  rw [fLt_iff h0 ha, orderKey_zero (a := 0#64) (by decide), orderKey_pos_iff] at h
  exact ⟨ha, h.2, h.1⟩

/-! ### Arithmetic with infinities (rule R120, decision D5) -/

theorem NonzeroOfSign.mul_infinity {neg : Bool} {a : F} (h : NonzeroOfSign neg a) (t : Bool) :
    fMul a (infinity t) = infinity (neg != t) := by
  rw [fMul_infinite_right (infinite_infinity t) h.notNaN, if_neg h.nonzero, h.sign, (nonzeroOfSign_infinity t).sign]

theorem infinity_sub_finite (neg : Bool) {b : F} (hb : finite b) : fSub (infinity neg) b = infinity neg :=
  fAdd_infinite_finite (infinite_infinity neg) (finite_fNeg hb)

theorem finite_sub_infinity (neg : Bool) {a : F} (ha : finite a) : fSub a (infinity neg) = infinity (!neg) := by
  have h := infinite_fNeg (infinite_infinity neg)
  rw [fSub, fAdd_finite_infinite h ha, eq_infinity h, negOf_fNeg, (nonzeroOfSign_infinity neg).sign]

theorem infinity_add_opposite (neg : Bool) : fAdd (infinity neg) (infinity (!neg)) = qnan := by
  rw [fAdd_infinite (infinite_infinity neg) (infinite_infinity _), (nonzeroOfSign_infinity _).sign,
    (nonzeroOfSign_infinity _).sign, if_neg (by simp)]

/-- Whatever `+inf` is taken from, the root is NaN. -/
theorem fSqrt_sub_infinity (x : F) : fSqrt (fSub x (infinity false)) = qnan := by
  have hroot : fSqrt (infinity true) = qnan := fSqrt_below_zero (by decide) (by decide)
  rcases lt_trichotomy (magOf x) infMag with h | h | h
  · rw [finite_sub_infinity false h, Bool.not_false, hroot]
  · rw [eq_infinity h]
    cases negOf x
    · rw [fSub, show fNeg (infinity false) = infinity (!false) by decide, infinity_add_opposite, fSqrt_qnan]
    · rw [fSub, show fNeg (infinity false) = infinity true by decide,
        fAdd_infinite (infinite_infinity true) (infinite_infinity true), if_pos rfl, hroot]
  · rw [fSub_nan_left _ (decide_eq_true h), fSqrt_qnan]

theorem finite_four : finite four := by
  unfold finite
  decide

/-- An amount of at least one unit is not rounded to zero. -/
theorem roundMag_ne_zero {n d : Nat} (hd : 0 < d) (h : d ≤ n) : roundMag n d ≠ 0 := by
  obtain ⟨sh, t, -, hs, hquot, hround⟩ := roundMag_parts n d
  have ht : 0 < t := by
    obtain rfl | hfull := hs
    · rw [hquot, pow_zero, mul_one]
      exact Nat.div_pos h hd
    · omega
  have hinf : 0 < infMag := by decide
  rw [hround]
  omega

theorem NonzeroOfSign.four_mul {neg : Bool} {b : F} (h : NonzeroOfSign neg b) : NonzeroOfSign neg (fMul four b) := by
  rcases (magOf_le_of_not_nan h.notNaN).lt_or_eq with hfin | hinf
  · have hpos := unitsOf_pos h.nonzero
    have hfour : 2 ^ 1074 ≤ unitsOf (magOf four) := by decide +kernel
    have hround := roundMag_ne_zero (by positivity) (hfour.trans (Nat.le_mul_of_pos_right _ hpos))
    rw [fMul_finite finite_four hfin, nonzeroOfSign_four.sign, Bool.false_bne, h.sign]
    exact ⟨fIsNaN_pack_roundMag _ _ _, by rwa [magOf_pack _ (roundMag_lt _ _)], negOf_pack _ (roundMag_lt _ _)⟩
  · rw [eq_infinity hinf, h.sign, nonzeroOfSign_four.mul_infinity, Bool.false_bne]
    exact nonzeroOfSign_infinity neg

/-! ### The trees at an infinite ratio -/

theorem finite_one : finite fOne := by
  rw [fOne_eq, finite]
  decide

theorem finite_niX0 : finite niX0 := by
  rw [niX0_eq, finite]
  decide

/-- The solver form at the infinity whose sign is not that of `B`: the radicand takes `+inf` away. -/
theorem qroot_infinity (a : F) {b : F} {neg : Bool} (hb : NonzeroOfSign neg b) : qroot a b (infinity !neg) = qnan := by
  have hprod : fMul (fMul fFour b) (fSub fOne (infinity !neg)) = infinity false := by
    rw [finite_sub_infinity _ finite_one, Bool.not_not, fFour_eq, hb.four_mul.mul_infinity, bne_self_eq_false]
  rw [qroot, radicand, hprod, fSqrt_sub_infinity, fSub_qnan_left, fDiv_qnan_left]

theorem infinity_mul_self (neg : Bool) : fMul (infinity neg) (infinity neg) = infinity false := by
  rw [(nonzeroOfSign_infinity neg).mul_infinity, bne_self_eq_false]

/-- At `-inf` the first two terms are opposite infinities. -/
theorem poly4_infinity {k : QuarticCoeffs} (h1 : NonzeroOfSign false k.d1) (h2 : NonzeroOfSign false k.d2) :
    poly4 k (infinity true) = qnan := by
  have hsum : fAdd (fMul k.d1 (infinity true)) (fMul k.d2 (infinity false)) = qnan := by
    rw [h1.mul_infinity, h2.mul_infinity]
    exact infinity_add_opposite true
  rw [poly4, infinity_mul_self, hsum, fAdd_qnan_left, fAdd_qnan_left]

/-- At `+inf` the first two terms are opposite infinities. -/
theorem poly3_infinity {k : CubicCoeffs} (h1 : NonzeroOfSign false k.d1) (h2 : NonzeroOfSign true k.d2) :
    poly3 k (infinity false) = qnan := by
  have hsum : fAdd (fMul k.d1 (infinity false)) (fMul k.d2 (infinity false)) = qnan := by
    rw [h1.mul_infinity, h2.mul_infinity]
    exact infinity_add_opposite false
  rw [poly3, infinity_mul_self, hsum, fAdd_qnan_left]

/-! ### Operands whose ratio is infinite -/

/-- An infinity over a number, or a number that is not zero over a zero. -/
def RatioOverflows (r r0 : F) : Prop := (infinite r ∧ finite r0) ∨ (finite r ∧ magOf r ≠ 0 ∧ magOf r0 = 0)

section
variable {r r0 : F} (h : RatioOverflows r r0)
include h

theorem RatioOverflows.ratio_eq (hs : negOf r0 = false) : ratio r r0 = infinity (negOf r) := by
  obtain ⟨hr, hr0⟩ | ⟨hr, hnz, hr0⟩ := h
  · rw [ratio, fDiv_infinite_finite hr hr0, hs, Bool.bne_false]
  · rw [ratio, fDiv_zero_divisor hr hr0, if_neg hnz, hs, Bool.bne_false]

/-- Such an `R` lies below `R0` exactly when its sign bit is 1. -/
theorem RatioOverflows.fLt_eq : fLt r r0 = negOf r := by
  have hkey : orderKey r < orderKey r0 ↔ negOf r = true := by
    obtain ⟨hr, hr0⟩ | ⟨-, hnz, hr0⟩ := h
    · have hfin : magOf r0 < infMag := hr0
      rw [orderKey_infinite hr, orderKey]
      cases negOf r <;> cases negOf r0 <;> simp <;> omega
    · rw [orderKey_zero hr0, orderKey_neg_iff, and_iff_left hnz]
  obtain ⟨hr, hr0⟩ : fIsNaN r = false ∧ fIsNaN r0 = false := by
    obtain ⟨hr, hr0⟩ | ⟨hr, -, hr0⟩ := h
    · exact ⟨fIsNaN_of_infinite hr, fIsNaN_of_finite hr0⟩
    · exact ⟨fIsNaN_of_finite hr, fIsNaN_of_finite (finite_of_magOf_zero hr0)⟩
  rw [Bool.eq_iff_iff, fLt_iff hr hr0, hkey]

end

theorem finite_tempStart (r0 : F) : finite (tempStart r0) := by
  rw [tempStart_eq_spec, Sys2Proof.Spec.tempStart]
  unfold finite
  split_ifs <;> decide

/-- The nickel threshold of a zero is zero, and every threshold is a number. -/
theorem RatioOverflows.tempStart {r r0 : F} (h : RatioOverflows r r0) : RatioOverflows r (tempStart r0) := by
  refine h.imp (fun hr => ⟨hr.1, finite_tempStart r0⟩) fun hr => ⟨hr.1, hr.2.1, ?_⟩
  have hother : ∀ v : F, magOf v ≠ 0 → r0 ≠ v := fun v hv heq => hv (heq ▸ hr.2.2)
  rw [tempStart_unrecognised (hother _ (by decide)) (hother _ (by decide)) (hother _ (by decide))]
  decide

section
variable {r r0 : F} (h : RatioOverflows r r0) (hs : negOf r0 = false)
include h hs

theorem platinumTemp_infinite_ratio {k : QuarticCoeffs} (hb : NonzeroOfSign true k.b) (h1 : NonzeroOfSign false k.d1)
    (h2 : NonzeroOfSign false k.d2) : platinumTemp k r r0 = qnan := by
  rw [platinumTemp, h.fLt_eq, h.ratio_eq hs]
  cases negOf r
  · rw [if_neg Bool.false_ne_true]
    exact qroot_infinity k.a hb
  · rw [if_pos rfl, infinity_sub_finite true finite_one, poly4_infinity h1 h2]

/-- Copper below `R0`. -/
theorem copperTemp_infinite_ratio_neg {k : QuarticCoeffs} (hr : negOf r = true) (h1 : NonzeroOfSign false k.d1)
    (h2 : NonzeroOfSign false k.d2) : copperTemp k r r0 = qnan := by
  rw [copperTemp, h.fLt_eq, h.ratio_eq hs, hr, if_pos rfl, infinity_sub_finite true finite_one,
    poly4_infinity h1 h2]

/-- Copper's linear branch. -/
theorem copperTemp_infinite_ratio_pos {k : QuarticCoeffs} (hr : negOf r = false) (hfin : finite k.a)
    (ha : NonzeroOfSign false k.a) : copperTemp k r r0 = infinity false := by
  rw [copperTemp, h.fLt_eq, h.ratio_eq hs, hr, if_neg Bool.false_ne_true,
    infinity_sub_finite false finite_one, fDiv_infinite_finite (infinite_infinity false) hfin, ha.sign,
    (nonzeroOfSign_infinity false).sign]
  rfl

theorem nickelTemp_infinite_ratio {k : CubicCoeffs} (hb : NonzeroOfSign false k.b) (h1 : NonzeroOfSign false k.d1)
    (h2 : NonzeroOfSign true k.d2) : nickelTemp k r r0 = qnan := by
  rw [nickelTemp, h.tempStart.fLt_eq, h.ratio_eq hs]
  cases negOf r
  · rw [if_neg Bool.false_ne_true, infinity_sub_finite false finite_niX0, poly3_infinity h1 h2, fAdd_qnan_right]
  · rw [if_pos rfl]
    exact qroot_infinity k.a hb

/-- With the usual signs every curve gives NaN, but for copper's linear branch. -/
theorem curveTemp_infinite_ratio {k : CoeffTable} (hk : usualSigns k) {c : Curve}
    (hc : c ≠ .cu428 ∨ negOf r = true) : curveTemp k c r r0 = qnan := by
  obtain ⟨⟨b385, p385, q385⟩, ⟨b391, p391, q391⟩, ⟨-, -, pcu, qcu⟩, bni, pni, qni⟩ := hk
  cases c with
  | pt385 =>
    rw [curveTemp]
    exact platinumTemp_infinite_ratio h hs (nonzeroOfSign_of_lt_zero b385) (nonzeroOfSign_of_zero_lt p385)
      (nonzeroOfSign_of_zero_lt q385)
  | pt391 =>
    rw [curveTemp]
    exact platinumTemp_infinite_ratio h hs (nonzeroOfSign_of_lt_zero b391) (nonzeroOfSign_of_zero_lt p391)
      (nonzeroOfSign_of_zero_lt q391)
  | cu428 =>
    rw [curveTemp]
    exact copperTemp_infinite_ratio_neg h hs (hc.resolve_left (not_not.mpr rfl)) (nonzeroOfSign_of_zero_lt pcu)
      (nonzeroOfSign_of_zero_lt qcu)
  | ni617 =>
    rw [curveTemp]
    exact nickelTemp_infinite_ratio h hs (nonzeroOfSign_of_zero_lt bni) (nonzeroOfSign_of_zero_lt pni)
      (nonzeroOfSign_of_lt_zero qni)

end

theorem exec_r2t_nan {c : Curve} {s : State} (hs : s.seq = .idle) (h : curveTemp s.params.k c s.x0 s.x1 = qnan) :
    ∃ t, exec (.r2t c) s = .next t ∧ fIsNaN t.x2 = true := exec_writes_nan hs (effectOf_r2t c s) h

/-- Settles O60, by the ratio. -/
theorem specialOperandsOfForwardConversions : Obligations.SpecialOperandsOfForwardConversions := by
  intro s hs
  refine ⟨fun c hnan => exec_r2t_nan hs (curveTemp_nan_ratio _ c hnan), fun hk hsign hratio => ⟨fun c hc => ?_,
    fun hpos => ?_⟩⟩
  · exact exec_r2t_nan hs (curveTemp_infinite_ratio hratio hsign hk hc)
  · obtain ⟨-, -, ⟨hfin, ha, -, -⟩, -⟩ := hk
    have hvalue := copperTemp_infinite_ratio_pos hratio hsign hpos hfin (nonzeroOfSign_of_zero_lt ha)
    obtain ⟨t, hexec, -, hx2⟩ := exec_writes_value (i := .r2tCu428) hs rfl
    refine ⟨t, hexec, ?_⟩
    rw [hvalue] at hx2
    exact hx2.resolve_right fun hnan => absurd hnan.2 (by decide)

end Sys2Proof.Machine
end

section
/-! PROOFS. A negative radicand (rules R116, R151, R166, R194): the root is the sentinel, it passes through the rest of
the tree and the calibration, and no flag hears of it. -/

namespace Sys2Proof.Machine

open Sys2Proof.Spec (codeDivisor curveOf firstTx secondRx thirdTx negativeRadicand)

/-! ### The value -/

theorem qroot_negative {a b w : F} (h : fLt (Sys2Proof.Spec.rad a b w) 0#64 = true) :
    Sys2Proof.Spec.qroot a b w = qnan := by
  rw [Sys2Proof.Spec.qroot, fSqrt_negative h, fSub_qnan_left, fDiv_qnan_left]

theorem curveTemp_negativeRadicand {k : CoeffTable} {c : Curve} {r r0 : F} (h : negativeRadicand k c r r0) :
    curveTemp k c r r0 = qnan := by
  rw [curveTemp_eq_r2t]
  cases c with
  | pt385 | pt391 => all_goals exact (if_neg (Bool.not_eq_true _ ▸ h.1)).trans (qroot_negative h.2)
  | cu428 => exact h.elim
  | ni617 => exact (if_pos h.1).trans (qroot_negative h.2)

/-- The binding names the curve of its code (rule R82). -/
theorem boundCurve_eq (s : State) : boundCurve s = curveOf s.curve := by
  unfold boundCurve
  generalize s.curve = c
  revert c
  decide

/-- The calibration keeps a NaN. -/
theorem boundTemp_qnan {s : State} {r : F} (h : curveTemp s.params.k (curveOf s.curve) r s.r0cfg = qnan) :
    boundTemp s r = qnan := by
  rw [boundTemp, boundCurve_eq, h, calibrate, fMul_qnan_left, fAdd_qnan_left]

/-! ### A pure operation -/

/-- An operation that writes a NaN result completes with it and writes no flag. -/
theorem exec_writes_nan_only {i : Instr} {s : State} (hs : s.seq = .idle) (he : effectOf i s = writeResult qnan s) :
    ∃ t, exec i s = .next t ∧ fIsNaN t.x2 = true ∧ t.err = s.err ∧ t.cause = s.cause ∧ t.valid = s.valid ∧
      t.fault = s.fault := by
  refine ⟨_, exec_idle i hs, ?_⟩
  rw [he, writeResult_eq, fIsNaN_settle, fIsNaN_qnan]
  exact ⟨rfl, rfl, rfl, rfl, rfl⟩

/-! ### An acquisition that received its frame -/

/-- What the last phase of `ACQ` starts from: the frame's code and fault byte, `FAULT` as it was or cleared, and the
binding, the calibration and the parameters of `s`. -/
structure ReadyToDeliver (s : State) (f : Frame) (u : State) : Prop where
  rtdcode : u.rtdcode = Frame.rtdcode f
  fstat : u.fstat = f.b6
  fault : u.fault = if f.b6 = 0#8 then s.fault else false
  params : u.params = s.params
  curve : u.curve = s.curve
  r0cfg : u.r0cfg = s.r0cfg
  calSlope : u.calSlope = s.calSlope
  calOffset : u.calOffset = s.calOffset

/-- The environment's answers after a read of seven bytes (rules R51, R52). -/
theorem nextReply_after_read {s t : State} {addr : Byte} (h : firstTx s = .ok)
    (hscript : t.script = (memRead addr frameLen s).2.script) (hdraws : t.draws = (memRead addr frameLen s).2.draws) :
    nextReply t = nextReply ((dropReply (dropReply s)).advance 7) := by
  obtain ⟨k, hk, -⟩ | ⟨-, heq⟩ := memRead_cases addr frameLen s
  · rw [nextReply_csAssert] at hk
    exact absurd (h.symm.trans hk) nofun
  · rw [heq] at hscript hdraws
    exact nextReply_congr hscript hdraws

/-- An `ACQ` whose read succeeds, and whose recovery write does where one is due, delivers (rules R160 to R166). -/
theorem effAcq_delivers {s : State} {bytes : List Byte} (htx : firstTx s = .ok) (hrx : secondRx 7 s = .ok bytes)
    (hrec : (Frame.ofBytes bytes).b6 = 0#8 ∨ thirdTx s = .ok) :
    ∃ u, effAcq s = deliver u ∧ ReadyToDeliver s (Frame.ofBytes bytes) u := by
  have hread : (memRead addrData frameLen s).1 = .ok bytes := (memRead_transmit_ok addrData frameLen htx).1.trans hrx
  obtain ⟨k, hk, -⟩ | ⟨bytes', s2, hb, hs2, hends⟩ := effAcq_cases s
  · exact absurd (hread.symm.trans hk) nofun
  obtain rfl := RxResult.ok.inj (hread.symm.trans hb)
  have hfaulted : faulted s2 = true ↔ (Frame.ofBytes bytes).b6 ≠ 0#8 := by simp [faulted, hs2, Frame.fstat]
  obtain ⟨hclean, heq⟩ | ⟨hf, -, heq⟩ | ⟨hf, k, hk, -⟩ := hends
  · have hb6 : (Frame.ofBytes bytes).b6 = 0#8 := by
      rw [← Bool.not_eq_true, hfaulted, not_not] at hclean
      exact hclean
    exact ⟨s2, heq, by constructor <;> simp [hs2, hb6, Frame.fstat]⟩
  · exact ⟨_, heq, by constructor <;> simp [hs2, hfaulted.mp hf, Frame.fstat]⟩
  · have hreply : nextReply (csAssert (s2.setFault true)) = _ :=
      nextReply_after_read (addr := addrData) htx (by simp [hs2]) (by simp [hs2])
    have hthird := hrec.resolve_left (hfaulted.mp hf)
    rw [thirdTx, ← hreply] at hthird
    exact absurd (hthird.symm.trans hk) nofun

section
variable {s u : State} {f : Frame} (h : ReadyToDeliver s f u)
include h

/-- The delivered resistance by integer arithmetic on the frame (rules R86, R164). -/
theorem ReadyToDeliver.ohms : ohmsOfCode u.rtdcode u.params.rRef =
    fDiv (fMul (fOfNat ((f.b0.toNat * 256 + f.b1.toNat) / 2)) s.params.rRef) codeDivisor := by
  rw [ohmsOfCode, h.rtdcode, h.params, Frame.rtdcode, toNat_upper_fifteen_bits, codeDiv_eq]

/-- A conversion that is NaN at the resistance is NaN at what `x[3]` received of it. -/
theorem ReadyToDeliver.deliver_nan
    (hval : curveTemp s.params.k (curveOf s.curve) (ohmsOfCode u.rtdcode u.params.rRef) s.r0cfg = qnan) :
    fIsNaN (deliver u).x2 = true := by
  have hsettled : curveTemp s.params.k (curveOf s.curve)
      (settle u.draws (ohmsOfCode u.rtdcode u.params.rRef)) s.r0cfg = qnan := by
    obtain heq | ⟨hnan, -⟩ := settle_cases u.draws (ohmsOfCode u.rtdcode u.params.rRef)
    · rw [heq, hval]
    · exact curveTemp_nan_ratio _ _ (by rw [fDiv_nan_left _ hnan, fIsNaN_qnan])
  rw [deliver_eq, fIsNaN_settle, boundTemp_congr _ h.params h.curve h.r0cfg h.calSlope h.calOffset,
    boundTemp_qnan hsettled, fIsNaN_qnan]

end

/-- Settles O23: the value is NaN in each operation, and the flags are those of any other value. -/
theorem negativeRadicandGivesTheSentinel : Obligations.NegativeRadicandGivesTheSentinel := by
  intro s hs
  refine ⟨fun c h => exec_writes_nan_only hs ?_, fun h => exec_writes_nan_only hs ?_,
    fun b0 b1 b2 b3 b4 b5 b6 htx hrx hrec h => ?_⟩
  · rw [effectOf_r2t, curveTemp_negativeRadicand h]
  · rw [← boundTemp_qnan (curveTemp_negativeRadicand h)]
    rfl
  · obtain ⟨u, heq, hu⟩ := effAcq_delivers htx hrx hrec
    have hvalue := curveTemp_negativeRadicand h
    refine ⟨deliver u, (exec_idle .acq hs).trans (congrArg _ heq), hu.deliver_nan ?_, deliver_err u, deliver_cause u,
      ?_, (deliver_fault u).trans hu.fault⟩
    · rw [hu.ohms]
      exact hvalue
    · rw [deliver_valid, faulted, hu.fstat]
      exact Bool.not_not _

end Sys2Proof.Machine
end

section
/-! PROOFS. The phase-by-phase form against the one-step form (rules R110, R160, R168, R170, R171). No shared operation
reads the phase, so a phase's work on `s.setSeq p` is its work on `s`; from each phase on, the ticks are then what the
one-step form does from there. -/

namespace Sys2Proof.Machine

/-! ### The phase is not read -/

section
variable (s : State) (p : Phase)

@[simp] theorem setSeq_setSeq (q : Phase) : (s.setSeq p).setSeq q = s.setSeq q := rfl

@[simp] theorem nextReply_setSeq : nextReply (s.setSeq p) = nextReply s := nextReply_congr rfl rfl

@[simp] theorem rxResult_setSeq (n : Nat) : rxResult n (s.setSeq p) = rxResult n s := rxResult_congr n rfl rfl

@[simp] theorem csAssert_setSeq : csAssert (s.setSeq p) = (csAssert s).setSeq p := rfl

@[simp] theorem csRelease_setSeq : csRelease (s.setSeq p) = (csRelease s).setSeq p := rfl

@[simp] theorem busTx_setSeq (bytes : List Byte) : busTx bytes (s.setSeq p) = (busTx bytes s).setSeq p := rfl

@[simp] theorem busRx_setSeq (n : Nat) : busRx n (s.setSeq p) = (busRx n s).setSeq p := rfl

@[simp] theorem setFb_setSeq (f : Frame) : (s.setSeq p).setFb f = (s.setFb f).setSeq p := rfl

@[simp] theorem setFault_setSeq (v : Bool) : (s.setSeq p).setFault v = (s.setFault v).setSeq p := rfl

@[simp] theorem setCfgrd_setSeq (v : Byte) : (s.setSeq p).setCfgrd v = (s.setCfgrd v).setSeq p := rfl

@[simp] theorem reportOk_setSeq : reportOk (s.setSeq p) = (reportOk s).setSeq p := rfl

@[simp] theorem reportFailure_setSeq (k : FailKind) :
    reportFailure k (s.setSeq p) = (reportFailure k s).setSeq p := rfl

@[simp] theorem loseCfgrd_setSeq : loseCfgrd (s.setSeq p) = (loseCfgrd s).setSeq p := rfl

@[simp] theorem decodeFrame_setSeq : decodeFrame (s.setSeq p) = (decodeFrame s).setSeq p := rfl

@[simp] theorem faulted_setSeq : faulted (s.setSeq p) = faulted s := rfl

@[simp] theorem memWrite_setSeq (addr : Byte) (v : List Byte) :
    memWrite addr v (s.setSeq p) = ((memWrite addr v s).1, (memWrite addr v s).2.setSeq p) := rfl

/-- The ends of `ACQ` write the phase. -/
@[simp] theorem raiseTransport_setSeq (k : FailKind) : raiseTransport k (s.setSeq p) = raiseTransport k s := rfl

@[simp] theorem raiseRecoveryTransport_setSeq (k : FailKind) :
    raiseRecoveryTransport k (s.setSeq p) = raiseRecoveryTransport k s := rfl

theorem boundTemp_setSeq (r : F) : boundTemp (s.setSeq p) r = boundTemp s r := boundTemp_congr r rfl rfl rfl rfl rfl

@[simp] theorem deliver_setSeq : deliver (s.setSeq p) = deliver s := by
  simp only [deliver_eq, boundTemp_setSeq]
  rfl

theorem effInit_setSeq (w : Wiring) : effInit w (s.setSeq p) = (effInit w s).setSeq p := by
  rw [effInit_eq, effInit_eq, csAssert_setSeq, nextReply_setSeq, busTx_setSeq, csRelease_setSeq]
  cases (nextReply (csAssert s)).outcome <;> rfl

/-- A pure operation neither reads nor writes the phase. -/
theorem pureEffect_setSeq {i : Instr} {f : State → State} (h : pureEffect i = some f) :
    f (s.setSeq p) = (f s).setSeq p := by
  cases i <;> simp only [pureEffect, Option.some.injEq, reduceCtorEq] at h <;> subst h
  case conv =>
    rw [effConv, boundTemp_setSeq]
    rfl
  all_goals rfl

end

/-! ### From each phase to `IDLE` -/

section
variable (n : Nat) {s t : State} {p : Phase} (hp : p ≠ .idle) (h : tick (s.setSeq p) = .next t)
include hp h

theorem ticks_phase : ticks (n + 1) (s.setSeq p) = ticks n t := ticks_succ hp h

/-- The last phase of an operation: its tick answers in `IDLE`, and what ticks are left do nothing. -/
theorem ticks_last_phase (ht : t.seq = .idle) : ticks (n + 1) (s.setSeq p) = .next t := by
  rw [ticks_phase n hp h, ticks_idle n ht]

end

section
variable (n : Nat) (s : State)

theorem ticks_setSeq_idle : ticks n (s.setSeq .idle) = .next (s.setSeq .idle) := ticks_idle n rfl

theorem ticks_exec {i : Instr} {f : State → State} (hd : decode s.cmd = .ok i) (hf : pureEffect i = some f) :
    ticks (n + 1) (s.setSeq .exec) = .next ((f s).setSeq .idle) := by
  have htick : tick (s.setSeq .exec) = .next ((f s).setSeq .idle) := by
    have hheld : heldEffect (s.setSeq .exec) = some f := by simp [heldEffect, hd, hf]
    simp [tick, tickExec, hheld, pureEffect_setSeq s .exec hf]
  exact ticks_last_phase n nofun htick rfl

theorem ticks_cfgTx {i : Instr} {w : Wiring} (hd : decode s.cmd = .ok i) (hw : initWiring i = some w) :
    ticks (n + 1) (s.setSeq .cfgTx) = .next ((effInit w s).setSeq .idle) := by
  have htick : tick (s.setSeq .cfgTx) = .next ((effInit w s).setSeq .idle) := by
    have hheld : heldWiring (s.setSeq .cfgTx) = some w := by simp [heldWiring, hd, hw]
    simp [tick, tickCfgTx, hheld, effInit_setSeq]
  exact ticks_last_phase n nofun htick rfl

theorem ticks_rcRx : ticks (n + 1) (s.setSeq .rcRx) = .next (tickRcRx s) := by
  have htick : tick (s.setSeq .rcRx) = .next (tickRcRx s) := by
    cases h : rxResult 1 s <;> simp [tick, tickRcRx, h]
  exact ticks_last_phase n nofun htick (tickRcRx_seq s)

/-- `RDCFG` after its chip-select (rule R171). -/
theorem ticks_rcTx : ticks (n + 2) ((csAssert s).setSeq .rcTx) = .next ((effRdcfg s).setSeq .idle) := by
  rw [ticks_phase (n + 1) (p := .rcTx) (t := tickRcTx ((csAssert s).setSeq .rcTx)) nofun rfl]
  cases htx : (nextReply s).outcome with
  | fail k => simp [tickRcTx, effRdcfg, memRead, htx, ticks_setSeq_idle]
  | ok =>
    cases hrx : rxResult 1 (dropReply (csAssert s)) <;>
      simp [tickRcTx, effRdcfg, memRead, htx, ticks_rcRx, tickRcRx, hrx]

theorem ticks_compute : ticks (n + 1) (s.setSeq .compute) = .next (deliver s) :=
  ticks_last_phase n nofun (congrArg _ (deliver_setSeq s .compute)) (deliver_seq s)

theorem ticks_recover : ticks (n + 2) ((s.setFault true).setSeq .recover) = .next (recoverAndDeliver s) := by
  rw [ticks_phase (n + 1) (p := .recover) (t := tickRecover ((s.setFault true).setSeq .recover)) nofun rfl, tickRecover,
    memWrite_setSeq, recoverAndDeliver]
  cases h : memWrite addrCfgWr [recovCfg] (s.setFault true) with
  | mk r s1 =>
    cases r with
    | ok => simp [ticks_compute]
    | fail k => simp [ticks_idle]

theorem ticks_faultDet : ticks (n + 3) (s.setSeq .faultDet) = .next (recoverAndDeliver s) := by
  rw [ticks_phase (n + 2) (p := .faultDet) (t := (s.setFault true).setSeq .recover) nofun rfl, ticks_recover]

theorem ticks_decode :
    ticks (n + 4) (s.setSeq .decode) =
      .next (if faulted (decodeFrame s) then recoverAndDeliver (decodeFrame s) else deliver (decodeFrame s)) := by
  rw [ticks_phase (n + 3) (p := .decode) (t := tickDecode (s.setSeq .decode)) nofun rfl, tickDecode]
  cases h : faulted (decodeFrame s) <;> simp [h, ticks_faultDet, ticks_compute]

theorem ticks_rdRx : ticks (n + 1) (s.setSeq .rdRx) = ticks n (tickRdRx s) := by
  have htick : tick (s.setSeq .rdRx) = .next (tickRdRx s) := by
    cases h : rxResult frameLen s <;> simp [tick, tickRdRx, h]
  exact ticks_phase n nofun htick

/-- `ACQ` after its chip-select (rule R168). -/
theorem ticks_rdTx : ticks (n + 6) ((csAssert s).setSeq .rdTx) = .next (effAcq s) := by
  rw [ticks_phase (n + 5) (p := .rdTx) (t := tickRdTx ((csAssert s).setSeq .rdTx)) nofun rfl]
  cases htx : (nextReply s).outcome with
  | fail k => simp [tickRdTx, effAcq, memRead, htx, ticks_idle]
  | ok =>
    cases hrx : rxResult frameLen (dropReply (csAssert s)) with
    | fail k => simp [tickRdTx, effAcq, memRead, htx, ticks_rdRx, tickRdRx, hrx, ticks_idle]
    | ok bytes => simp [tickRdTx, effAcq, memRead, htx, ticks_rdRx, tickRdRx, hrx, ticks_decode]

end

/-! ### Whole operations -/

theorem firstPhase_pure {i : Instr} {f : State → State} (h : pureEffect i = some f) (s : State) :
    firstPhase i s = s.setSeq .exec := by
  cases i
  case acq | rdcfg | init2w | init3w | init4w => all_goals cases h
  all_goals rfl

theorem firstPhase_configuration {i : Instr} {w : Wiring} (h : initWiring i = some w) (s : State) :
    firstPhase i s = s.setSeq .cfgTx := by
  cases i
  case init2w | init3w | init4w => all_goals rfl
  all_goals cases h

/-- The phases of an operation are its effect, kind by kind. -/
theorem ticks_firstPhase (i : Instr) {s : State} (hd : decode s.cmd = .ok i) (hs : s.seq = .idle) :
    ticks 6 (firstPhase i s) = .next (effectOf i s) := by
  have hend := setSeq_self (effectOf_seq i hs)
  obtain rfl | rfl | ⟨w, hi, hw⟩ | hp := effectOf_kinds i
  · exact ticks_rdTx 0 s
  · rw [show effectOf .rdcfg s = effRdcfg s from rfl] at hend ⊢
    rw [← hend]
    exact ticks_rcTx 4 s
  · rw [firstPhase_configuration hi, ticks_cfgTx 5 s hd hi, ← hw, hend]
  · rw [firstPhase_pure hp, ticks_exec 5 s hd hp, hend]

/-- Settles O44: the launch puts the word in the command port, and the ticks are the operation's effect. -/
theorem phasesAgreeWithTheOperation : Obligations.PhasesAgreeWithTheOperation := by
  intro i s hs
  have hlaunch : launch i s = .next (firstPhase i (s.setCmd (encode i))) := if_pos hs
  have hexec : exec i (s.setCmd (encode i)) = .next (effectOf i (s.setCmd (encode i))) := exec_idle i hs
  have hticks := ticks_firstPhase i (s := s.setCmd (encode i)) (decode_encode i) hs
  rw [runPhases, hlaunch]
  exact hticks.trans hexec.symm

end Sys2Proof.Machine
end

section
/-! PROOFS. The inverse conversions (rules R130 to R134): the model's trees are the spec's, curve by curve, and each
operation writes the value of its curve's tree. -/

namespace Sys2Proof.Machine

open Sys2Proof.Spec (t2r)

/-! ### Trees (rules R131 to R134) -/

theorem cuK_eq : cuK = Sys2Proof.Spec.kCopper := by decide +kernel

/-- `T2R[curve](T, R0)`: the model's function that a curve selects, beside `curveTemp`. -/
def curveOhms (k : CoeffTable) (c : Curve) (t r0 : F) : F :=
  match c with
  | .pt385 => platinumOhms k.pt385 t r0
  | .pt391 => platinumOhms k.pt391 t r0
  | .cu428 => copperOhms k.cu428 t r0
  | .ni617 => nickelOhms k.ni617 t r0

/-- The model's `T2R` functions are the spec's (rules R131 to R134). -/
theorem curveOhms_eq_t2r (k : CoeffTable) (c : Curve) (t r0 : F) : curveOhms k c t r0 = t2r k c t r0 := by
  cases c <;>
    simp only [curveOhms, platinumOhms, copperOhms, nickelOhms, quadForm, t2r, fZero, fOne_eq, fHundred_eq, cuK_eq]

/-! ### The operations (rule R130) -/

/-- `T2R` writes the value of its curve's function. -/
theorem effectOf_t2r (c : Curve) (s : State) :
    effectOf (.t2r c) s = writeResult (curveOhms s.params.k c s.x0 s.x1) s := by
  cases c <;> rfl

theorem t2r_result (c : Curve) {s : State} (hs : s.seq = .idle) :
    ∃ t, exec (.t2r c) s = .next t ∧ t = { s with x2 := t.x2, draws := t.draws } ∧
      SameF t.x2 (t2r s.params.k c s.x0 s.x1) :=
  exec_writes_value hs (curveOhms_eq_t2r s.params.k c s.x0 s.x1 ▸ effectOf_t2r c s)

/-- Settles O16, as every inverse conversion. -/
theorem inversePt385Result : Obligations.InversePt385Result := fun _ => t2r_result .pt385

/-- Settles O17, as every inverse conversion. -/
theorem inversePt391Result : Obligations.InversePt391Result := fun _ => t2r_result .pt391

/-- Settles O18, as every inverse conversion. -/
theorem inverseCu428Result : Obligations.InverseCu428Result := fun _ => t2r_result .cu428

/-- Settles O19, as every inverse conversion. -/
theorem inverseNi617Result : Obligations.InverseNi617Result := fun _ => t2r_result .ni617

end Sys2Proof.Machine
end

section
/-! PROOFS. The calibration (rules R150 to R152): what `CAL` and `CONV` write, that the reset constants change no value
but `-0.0`, and that the constants reach the temperature only. -/

namespace Sys2Proof.Machine

open Sys2Proof.Spec (one finite zero bound)

/-! ### The operations (rules R150, R151) -/

theorem effectOf_cal (s : State) :
    effectOf .cal s = writeResult (fAdd (fMul s.x0 s.calSlope) s.calOffset) s := by
  rw [← calibrate]
  rfl

/-- The model's bound conversion is the spec's tree with the calibration as its last step. -/
theorem boundTemp_eq_bound (s : State) (r : F) : boundTemp s r = bound s r := by
  rw [boundTemp, calibrate, curveTemp_eq_r2t, boundCurve_eq, bound]

theorem effectOf_conv (s : State) : effectOf .conv s = writeResult (bound s s.x0) s := by
  rw [← boundTemp_eq_bound]
  rfl

/-- Settles O20. -/
theorem calibrationResult : Obligations.CalibrationResult := fun s hs => exec_writes_value hs (effectOf_cal s)

/-- Settles O21. -/
theorem boundConversionResult : Obligations.BoundConversionResult := fun s hs => exec_writes_value hs (effectOf_conv s)

/-! ### The reset calibration -/

/-- `1.0` is `2^1074` units, the divisor of a product of amounts: a product by it is a pattern's own amount. -/
theorem fMul_one {a : F} (h : fIsNaN a = false) : fMul a one = a := by
  have hone : negOf one = false ∧ magOf one ≠ 0 ∧ unitsOf (magOf one) = 2 ^ 1074 := by decide +kernel
  obtain ⟨hsign, hmag, hunits⟩ := hone
  have hfinOne : finite one := fOne_eq ▸ finite_one
  obtain hfin | hinf := (magOf_le_of_not_nan h).lt_or_eq
  · rw [fMul_finite hfin hfinOne, hunits, roundMag_exact (by positivity) hfin rfl, hsign, Bool.bne_false, pack_sign_mag]
  · rw [fMul_infinite_left hinf (fIsNaN_of_finite hfinOne), if_neg hmag, hsign, Bool.bne_false, ← eq_infinity hinf]

theorem eq_zero_of_magOf_zero {a : F} (h : magOf a = 0) : a = zero (negOf a) := by
  rw [zero_eq_pack, ← h, pack_sign_mag]

/-- The sign of an amount that is not zero. -/
theorem signedUnits_neg_iff {a : F} (h : magOf a ≠ 0) : signedUnits a < 0 ↔ negOf a = true := by
  have hpos := unitsOf_pos h
  cases hs : negOf a <;> simp [signedUnits, hs, hpos]

theorem natAbs_signedUnits (a : F) : (signedUnits a).natAbs = unitsOf (magOf a) := by
  cases hs : negOf a <;> simp [signedUnits, hs]

theorem fAdd_zero_of_nonzero {a : F} (hfin : finite a) (h : magOf a ≠ 0) : fAdd a 0#64 = a := by
  have hne : signedUnits a ≠ 0 := by
    rw [← Int.natAbs_ne_zero, natAbs_signedUnits]
    exact (unitsOf_pos h).ne'
  have hzero : signedUnits 0#64 = 0 := by decide
  rw [fAdd_finite hfin (finite_of_magOf_zero (by decide)), hzero, add_zero, if_neg hne, natAbs_signedUnits,
    roundMag_exact one_pos hfin (mul_one _).symm]
  simp only [signedUnits_neg_iff h, Bool.decide_eq_true, pack_sign_mag]

/-- Adding `+0.0` changes `-0.0` only. -/
theorem fAdd_zero {a : F} (h : fIsNaN a = false) : fAdd a 0#64 = if a = 0x8000000000000000#64 then 0#64 else a := by
  by_cases hmag : magOf a = 0
  · have hsums : ∀ neg, fAdd (zero neg) 0#64 = if zero neg = 0x8000000000000000#64 then 0#64 else zero neg := by
      decide +kernel
    rw [eq_zero_of_magOf_zero hmag]
    exact hsums (negOf a)
  · have hnot : a ≠ 0x8000000000000000#64 := fun ha => hmag (ha ▸ by decide)
    rw [if_neg hnot]
    obtain hfin | hinf := (magOf_le_of_not_nan h).lt_or_eq
    · exact fAdd_zero_of_nonzero hfin hmag
    · exact fAdd_infinite_finite hinf (finite_of_magOf_zero (by decide))

/-- Settles O25: a product by `1.0` is exact, and a sum with `+0.0` changes `-0.0` only. -/
theorem resetCalibrationIsTheIdentity : Obligations.ResetCalibrationIsTheIdentity := by
  intro s hs
  refine ⟨fun hslope hoffset hnan => ⟨_, exec_idle .cal hs, ?_⟩, fun hnan => exec_writes_nan hs (effectOf_cal s) ?_⟩
  · have hvalue := fAdd_zero hnan
    rw [effectOf_cal, writeResult_eq, hslope, hoffset, fMul_one hnan, ← hvalue]
    refine settle_of_not_nan _ ?_
    rw [hvalue]
    split
    · decide
    · exact hnan
  · rw [fMul_nan_left _ hnan, fAdd_qnan_left]

/-! ### Two runs under different constants (rule R152)

No operation but `CAL` and `CONV`, and no phase of `ACQ` but the last, reads the constants: its work on a recalibrated
state is its work on the state, recalibrated. -/

/-- The state with other calibration constants. -/
def State.recalibrate (s : State) (o m : F) : State := (s.setCalOffset o).setCalSlope m

section
variable (s : State) (o m : F)

theorem memRead_recalibrate (addr : Byte) (n : Nat) :
    memRead addr n (s.recalibrate o m) = ((memRead addr n s).1, (memRead addr n s).2.recalibrate o m) := by
  have hreply : nextReply (csAssert (s.recalibrate o m)) = nextReply (csAssert s) := nextReply_congr rfl rfl
  rw [memRead, memRead, hreply]
  cases (nextReply (csAssert s)).outcome <;> rfl

theorem memWrite_recalibrate (addr : Byte) (v : List Byte) :
    memWrite addr v (s.recalibrate o m) = ((memWrite addr v s).1, (memWrite addr v s).2.recalibrate o m) := rfl

theorem effInit_recalibrate (w : Wiring) : effInit w (s.recalibrate o m) = (effInit w s).recalibrate o m := by
  rw [effInit, effInit, memWrite_recalibrate]
  obtain ⟨r, s1⟩ := memWrite addrCfgWr [cfgByte w] s
  cases r <;> rfl

theorem effRdcfg_recalibrate : effRdcfg (s.recalibrate o m) = (effRdcfg s).recalibrate o m := by
  rw [effRdcfg, effRdcfg, memRead_recalibrate]
  obtain ⟨r, s1⟩ := memRead addrCfgRd 1 s
  cases r <;> rfl

theorem pureEffect_recalibrate {i : Instr} {f : State → State} (h : pureEffect i = some f) (hcal : i ≠ .cal)
    (hconv : i ≠ .conv) : f (s.recalibrate o m) = (f s).recalibrate o m := by
  cases i <;> simp only [pureEffect, Option.some.injEq, reduceCtorEq] at h <;> subst h
  case cal => exact absurd rfl hcal
  case conv => exact absurd rfl hconv
  all_goals rfl

theorem effectOf_recalibrate {i : Instr} (hcal : i ≠ .cal) (hconv : i ≠ .conv) (hacq : i ≠ .acq) :
    effectOf i (s.recalibrate o m) = (effectOf i s).recalibrate o m := by
  obtain rfl | rfl | ⟨w, -, hw⟩ | hp := effectOf_kinds i
  · exact absurd rfl hacq
  · exact effRdcfg_recalibrate s o m
  · rw [hw, effInit_recalibrate]
  · exact pureEffect_recalibrate s o m hp hcal hconv

/-- The last phase of `ACQ` reads the constants for the temperature. -/
theorem deliver_recalibrate :
    deliver (s.recalibrate o m) = ((deliver s).recalibrate o m).setX2 (deliver (s.recalibrate o m)).x2 := by
  rw [deliver_eq, deliver_eq]
  rfl

theorem recoverAndDeliver_recalibrate :
    recoverAndDeliver (s.recalibrate o m) =
      ((recoverAndDeliver s).recalibrate o m).setX2 (recoverAndDeliver (s.recalibrate o m)).x2 := by
  have hwrite : memWrite addrCfgWr [recovCfg] ((s.recalibrate o m).setFault true) = _ :=
    memWrite_recalibrate (s.setFault true) o m addrCfgWr [recovCfg]
  rw [recoverAndDeliver, recoverAndDeliver, hwrite]
  obtain ⟨r, s1⟩ := memWrite addrCfgWr [recovCfg] (s.setFault true)
  cases r with
  | ok => exact deliver_recalibrate (s1.setFault false) o m
  | fail k => rfl

/-- Other constants change the `x[2]` of an `ACQ` only. -/
theorem effAcq_recalibrate :
    effAcq (s.recalibrate o m) = ((effAcq s).recalibrate o m).setX2 (effAcq (s.recalibrate o m)).x2 := by
  rw [effAcq, effAcq, memRead_recalibrate]
  obtain ⟨r, s1⟩ := memRead addrData frameLen s
  cases r with
  | fail k => rfl
  | ok bytes =>
    have hframe : decodeFrame ((s1.recalibrate o m).setFb (Frame.ofBytes bytes)) =
      (decodeFrame (s1.setFb (Frame.ofBytes bytes))).recalibrate o m := rfl
    have hfaulted (u : State) : faulted (u.recalibrate o m) = faulted u := rfl
    simp only [hframe, hfaulted]
    split
    · exact recoverAndDeliver_recalibrate _ o m
    · exact deliver_recalibrate _ o m

end

/-! ### The temperature of an acquisition (rule R166) -/

/-- An `ACQ` that reports no failure has delivered. -/
theorem effAcq_eq_deliver {s : State} (h : (effAcq s).err = false) : ∃ u, effAcq s = deliver u := by
  obtain ⟨k, -, heq⟩ | ⟨_, s2, -, -, ⟨-, heq⟩ | ⟨-, -, heq⟩ | ⟨-, k, -, heq⟩⟩ := effAcq_cases s
  · simp [heq] at h
  · exact ⟨_, heq⟩
  · exact ⟨_, heq⟩
  · simp [heq] at h

/-- A delivered temperature is the bound conversion of the delivered resistance. -/
theorem deliver_x2_bound (u : State) : SameF (deliver u).x2 (bound u (deliver u).x3) := by
  rw [← boundTemp_eq_bound]
  exact settle_cases (u.draws + 1) _

/-- The same by the constants and the binding of the state `ACQ` started from: no operation writes them. -/
theorem effAcq_x2_bound {s : State} (h : (effAcq s).err = false) : SameF (effAcq s).x2 (bound s (effAcq s).x3) := by
  obtain ⟨u, hu⟩ := effAcq_eq_deliver h
  have hkeep : bound (effAcq s) (effAcq s).x3 = bound s (effAcq s).x3 := by rw [effAcq_frame]; rfl
  rw [← hkeep, hu]
  exact deliver_x2_bound u

/-- Settles O55: outside the values of `CAL`, `CONV` and a delivery every run commutes with recalibration. -/
theorem calibrationTouchesTheTemperatureOnly : Obligations.CalibrationTouchesTheTemperatureOnly := by
  intro s t u o m i ht hu
  obtain ⟨-, rfl⟩ := exec_next ht
  obtain ⟨-, rfl⟩ := exec_next hu
  refine ⟨effectOf_recalibrate s o m, ?_, ?_, ?_, ?_⟩
  · rintro rfl
    exact effAcq_recalibrate s o m
  · rintro rfl
    rw [effectOf_cal]
    exact settle_cases s.draws _
  · rintro rfl
    rw [effectOf_conv]
    exact settle_cases s.draws _
  · rintro rfl
    exact effAcq_x2_bound

end Sys2Proof.Machine
end

section
/-! PROOFS. The configuration transactions (rules R170, R171, R174 to R176): each is one transaction of rule R52 or R53
and a report of its result. -/

namespace Sys2Proof.Machine

open Sys2Proof.Spec (firstTx causeOf causeOfTransfer errOf afterBus writeEvents)

theorem causeCode_eq_causeOf (k : FailKind) : causeCode k = causeOf k := by cases k <;> rfl

/-! ### `INIT` -/

theorem reportTransfer_fields (r : Transfer) (s : State) :
    (reportTransfer r s).err = errOf r ∧ (reportTransfer r s).cause = causeOfTransfer r ∧
      (reportTransfer r s).trace = s.trace := by
  cases r with
  | ok => exact ⟨rfl, rfl, rfl⟩
  | fail k => exact ⟨rfl, causeCode_eq_causeOf k, rfl⟩

/-- The trace of a configuration write: its two bytes in a scope of their own (rules R53, R85). -/
theorem memWrite_cfg_trace (cfg : Byte) (s : State) :
    (memWrite addrCfgWr [cfg] s).2.trace = s.trace ++ writeEvents s.params.tmo cfg (firstTx s) := by
  rw [memWriteTransaction addrCfgWr [cfg] s]
  rfl

/-- One configuration write with the wiring's byte, and the report of its one transfer (rule R170). -/
theorem effInit_eq_afterBus (w : Wiring) (s : State) :
    effInit w s =
      { afterBus s (effInit w s) (writeEvents s.params.tmo (cfgByte w) (firstTx s)) with
        err := errOf (firstTx s)
        cause := causeOfTransfer (firstTx s) } := by
  obtain ⟨herr, hcause, htrace⟩ := reportTransfer_fields (firstTx s) (memWrite addrCfgWr [cfgByte w] s).2
  have heff : effInit w s = reportTransfer (firstTx s) (memWrite addrCfgWr [cfgByte w] s).2 := rfl
  rw [afterBus, ← memWrite_cfg_trace, ← htrace, ← herr, ← hcause, ← heff]
  exact effInit_frame w s

theorem init_writes_once {i : Instr} {w : Wiring} {s : State} (hi : effectOf i = effInit w) (hs : s.seq = .idle) :
    ∃ t, exec i s = .next t ∧
      t = { afterBus s t (writeEvents s.params.tmo (cfgByte w) (firstTx s)) with
            err := errOf (firstTx s)
            cause := causeOfTransfer (firstTx s) } :=
  ⟨effInit w s, hi ▸ exec_idle i hs, effInit_eq_afterBus w s⟩

/-- Settles O37: two wires and four wires have the same configuration byte. -/
theorem initSendsOneConfigurationWrite : Obligations.InitSendsOneConfigurationWrite := fun _ hs =>
  ⟨init_writes_once (w := .w2) rfl hs, init_writes_once (w := .w3) rfl hs, init_writes_once (w := .w4) rfl hs, rfl⟩

/-! ### `RDCFG` -/

section
variable {s : State} {ev : List BusEvent} (htrace : (memRead addrCfgRd 1 s).2.trace = s.trace ++ ev)
include htrace

/-- A read that received its byte. -/
theorem effRdcfg_of_ok {v : Byte} (h : (memRead addrCfgRd 1 s).1 = .ok [v]) :
    effRdcfg s = { afterBus s (effRdcfg s) ev with cfgrd := v, err := false, cause := 0#2 } := by
  obtain ⟨bytes, hb, heq⟩ | ⟨k, hk, -⟩ := effRdcfg_cases s
  · obtain rfl := RxResult.ok.inj (h.symm.trans hb)
    have hframe := effRdcfg_frame s
    rw [afterBus, ← htrace]
    simpa [heq] using hframe
  · exact absurd (h.symm.trans hk) nofun

/-- A read whose transmit or receive failed. -/
theorem effRdcfg_of_fail {k : FailKind} (h : (memRead addrCfgRd 1 s).1 = .fail k) :
    effRdcfg s =
      { afterBus s (effRdcfg s) ev with cfgrd := (effRdcfg s).cfgrd, err := true, cause := causeOf k } := by
  obtain ⟨bytes, hb, -⟩ | ⟨j, hj, heq⟩ := effRdcfg_cases s
  · exact absurd (h.symm.trans hb) nofun
  · obtain rfl := RxResult.fail.inj (h.symm.trans hj)
    have hframe := effRdcfg_frame s
    rw [afterBus, ← htrace, ← causeCode_eq_causeOf]
    simpa [heq] using hframe

end

/-- Settles O38, by the transaction's result: the byte, a failed receive, a failed transmit. -/
theorem rdcfgReadsOneByte : Obligations.RdcfgReadsOneByte := by
  intro s hs
  refine ⟨fun v htx hrx => ⟨_, exec_idle .rdcfg hs, ?_⟩, fun k htx hrx => ⟨_, exec_idle .rdcfg hs, ?_⟩,
    fun k htx => ⟨_, exec_idle .rdcfg hs, ?_⟩⟩
  · obtain ⟨hread, htrace⟩ := memRead_transmit_ok addrCfgRd 1 htx
    rw [hrx] at hread htrace
    exact effRdcfg_of_ok htrace hread
  · obtain ⟨hread, htrace⟩ := memRead_transmit_ok addrCfgRd 1 htx
    rw [hrx] at hread htrace
    exact effRdcfg_of_fail htrace hread
  · obtain ⟨hread, htrace⟩ := memRead_transmit_fails addrCfgRd 1 htx
    exact effRdcfg_of_fail htrace hread

end Sys2Proof.Machine
end

section
/-! PROOFS. `ACQ` from its start to its end (rules R160 to R167, R172): `received` is the state its read and its `DECODE`
leave, `recovered` the state after a recovery write, and each outcome is a delivery or an abort from one of the two. -/

namespace Sys2Proof.Machine

open Sys2Proof.Spec (firstTx secondRx thirdTx causeOf readEvents writeEvents latched acqFrame codeDivisor bound)

/-! ### The two states -/

/-- The state after a data read that received the frame `f` and the decoding of its fields (rules R161, R162). -/
def received (s : State) (f : Frame) : State := decodeFrame ((memRead addrData frameLen s).2.setFb f)

/-- The state after a recovery write, `FAULT` raised before it and cleared after it whatever came of it (rule R163). -/
def recovered (u : State) : State := (memWrite addrCfgWr [recovCfg] (u.setFault true)).2.setFault false

/-- The transport's answer to the recovery write. -/
def recoveryAnswer (u : State) : Transfer := (memWrite addrCfgWr [recovCfg] (u.setFault true)).1

theorem faulted_received (s : State) (f : Frame) : faulted (received s f) = (f.b6 != 0#8) := rfl

theorem recovered_trace (u : State) :
    (recovered u).trace = u.trace ++ writeEvents u.params.tmo 0xD3#8 (recoveryAnswer u) :=
  memWrite_cfg_trace recovCfg (u.setFault true)

theorem recoverAndDeliver_of_ok {u : State} (h : recoveryAnswer u = .ok) :
    recoverAndDeliver u = deliver (recovered u) := by
  rw [recoverAndDeliver]
  split
  · next heq => rw [recovered, heq]
  · next heq => rw [recoveryAnswer, heq] at h; cases h

theorem recoverAndDeliver_of_fail {u : State} {k : FailKind} (h : recoveryAnswer u = .fail k) :
    recoverAndDeliver u = raiseRecoveryTransport k (recovered u) := by
  rw [recoverAndDeliver]
  split
  · next heq => rw [recoveryAnswer, heq] at h; cases h
  · next heq =>
    rw [recoveryAnswer, heq] at h
    obtain rfl := Transfer.fail.inj h
    rw [recovered, heq]

/-! ### What the read decides -/

theorem effAcq_of_read_fail {s : State} {k : FailKind} (h : (memRead addrData frameLen s).1 = .fail k) :
    effAcq s = raiseTransport k (memRead addrData frameLen s).2 := by
  obtain ⟨j, hj, heq⟩ | ⟨bytes, -, hb, -⟩ := effAcq_cases s
  · obtain rfl := RxResult.fail.inj (h.symm.trans hj)
    exact heq
  · exact absurd (h.symm.trans hb) nofun

section
variable {s : State} {f : Frame} (htx : firstTx s = .ok) (hrx : secondRx 7 s = .ok (Frame.toBytes f))
include htx

theorem recoveryAnswer_received : recoveryAnswer (received s f) = thirdTx s := by
  have hreply : nextReply (csAssert ((received s f).setFault true)) = _ :=
    nextReply_after_read (addr := addrData) htx (by simp [received]) (by simp [received])
  rw [recoveryAnswer, memWrite_eq, hreply, thirdTx]

include hrx

theorem effAcq_of_read_ok :
    effAcq s =
      if faulted (received s f) then recoverAndDeliver (received s f) else deliver (received s f) := by
  have hread := (memRead_transmit_ok addrData frameLen htx).1.trans hrx
  rw [effAcq]
  split
  · next heq => rw [heq] at hread; cases hread
  · next bytes u heq =>
    rw [heq] at hread
    obtain rfl := RxResult.ok.inj hread
    rw [received, heq]
    rfl

theorem received_trace :
    (received s f).trace = s.trace ++ readEvents s.params.tmo (.ok (Frame.toBytes f)) := by
  have htrace := (memRead_transmit_ok addrData frameLen htx).2
  rw [show secondRx frameLen s = _ from hrx] at htrace
  exact htrace

theorem effAcq_of_clean (hb : f.b6 = 0#8) : effAcq s = deliver (received s f) := by
  rw [effAcq_of_read_ok htx hrx, faulted_received, hb]
  rfl

section
variable (hb : f.b6 ≠ 0#8)
include hb

theorem effAcq_of_faulted : effAcq s = recoverAndDeliver (received s f) := by
  rw [effAcq_of_read_ok htx hrx, faulted_received, if_pos (bne_iff_ne.mpr hb)]

/-- The recovery write succeeds. -/
theorem effAcq_of_recovered (hrec : thirdTx s = .ok) : effAcq s = deliver (recovered (received s f)) := by
  rw [effAcq_of_faulted htx hrx hb, recoverAndDeliver_of_ok ((recoveryAnswer_received htx).trans hrec)]

/-- The recovery write fails. -/
theorem effAcq_of_recovery_fail {k : FailKind} (hrec : thirdTx s = .fail k) :
    effAcq s = raiseRecoveryTransport k (recovered (received s f)) := by
  rw [effAcq_of_faulted htx hrx hb, recoverAndDeliver_of_fail ((recoveryAnswer_received htx).trans hrec)]

end

theorem recovered_received_trace :
    (recovered (received s f)).trace =
      s.trace ++ (readEvents s.params.tmo (.ok (Frame.toBytes f)) ++ writeEvents s.params.tmo 0xD3#8 (thirdTx s)) := by
  have htmo : (received s f).params = s.params := by simp [received]
  rw [recovered_trace, recoveryAnswer_received htx, received_trace htx hrx, htmo, List.append_assoc]

end

/-! ### The frame, the latched reading, the delivered values -/

/-- What an `ACQ` leaves alone in the terms of the statements: only its trace is left to know. -/
theorem acqFrame_of_trace {s : State} {ev : List BusEvent} (hs : s.seq = .idle) (h : (effAcq s).trace = s.trace ++ ev) :
    acqFrame s (effAcq s) ev := by
  have hframe := effAcq_frame s
  rw [← hs] at hframe
  rw [acqFrame, Sys2Proof.Spec.afterBus, ← h]
  exact hframe

/-- The frame buffer and the decoded registers hold the frame `f` and its fields (rules R86, R162). -/
structure HoldsFrame (f : Frame) (t : State) : Prop where
  fb : t.fb = f
  rtdcode : t.rtdcode = Frame.rtdcode f
  hft : t.hft = Frame.hft f
  lft : t.lft = Frame.lft f
  fstat : t.fstat = Frame.fstat f

theorem holdsFrame_received (s : State) (f : Frame) : HoldsFrame f (received s f) := ⟨rfl, rfl, rfl, rfl, rfl⟩

section
variable {f : Frame} {t : State} (h : HoldsFrame f t)
include h

theorem HoldsFrame.latched : latched t f.b0 f.b1 f.b2 f.b3 f.b4 f.b5 f.b6 := by
  obtain ⟨hcode, hhft, hlft, -, -⟩ := frameFieldsAreExtracted f
  refine ⟨h.fb, ?_, ?_, ?_, h.fstat⟩
  · rw [h.rtdcode, hcode]
  · rw [h.hft, hhft]
  · rw [h.lft, hlft]

theorem HoldsFrame.recovered : HoldsFrame f (recovered t) := by
  constructor <;> simp [Machine.recovered, h.fb, h.rtdcode, h.hft, h.lft, h.fstat]

theorem HoldsFrame.deliver : HoldsFrame f (deliver t) := by
  constructor <;> simp [h.fb, h.rtdcode, h.hft, h.lft, h.fstat]

theorem HoldsFrame.raiseRecoveryTransport (k : FailKind) : HoldsFrame f (raiseRecoveryTransport k t) := by
  constructor <;> simp [h.fb, h.rtdcode, h.hft, h.lft, h.fstat]

end

/-- An `ACQ` that delivers, given the frame and the trace it ends with (rules R164 to R166). -/
theorem acq_delivers {s : State} {f : Frame} {ev : List BusEvent} (hs : s.seq = .idle) (htx : firstTx s = .ok)
    (hrx : secondRx 7 s = .ok (Frame.toBytes f)) (hrec : f.b6 = 0#8 ∨ thirdTx s = .ok) (hf : HoldsFrame f (effAcq s))
    (htrace : (effAcq s).trace = s.trace ++ ev) :
    ∃ t, exec .acq s = .next t ∧ latched t f.b0 f.b1 f.b2 f.b3 f.b4 f.b5 f.b6 ∧ acqFrame s t ev ∧
      SameF t.x3 (fDiv (fMul (fOfNat ((f.b0.toNat * 256 + f.b1.toNat) / 2)) s.params.rRef) codeDivisor) ∧
      SameF t.x2 (bound s t.x3) ∧
      t.valid = !(f.b6 != 0#8) ∧ t.err = false ∧ t.cause = 0#2 ∧ t.fault = if f.b6 = 0#8 then s.fault else false := by
  obtain ⟨u, heq, hu : ReadyToDeliver s f u⟩ := effAcq_delivers htx hrx hrec
  have herr : (effAcq s).err = false := by rw [heq, deliver_err]
  refine ⟨effAcq s, exec_idle .acq hs, hf.latched, acqFrame_of_trace hs htrace, ?_, effAcq_x2_bound herr, ?_, herr, ?_,
    ?_⟩
  · rw [heq, deliver_x3, ← hu.ohms]
    exact settle_cases u.draws _
  · rw [heq, deliver_valid, faulted, hu.fstat]
  · rw [heq, deliver_cause]
  · rw [heq, deliver_fault, hu.fault]

/-- Settles O39: a clean frame is delivered from where its decoding left it. -/
theorem cleanFrameIsDelivered : Obligations.CleanFrameIsDelivered := by
  rintro s b0 b1 b2 b3 b4 b5 _ hs htx hrx rfl
  replace hrx : secondRx 7 s = .ok (Frame.toBytes ⟨b0, b1, b2, b3, b4, b5, 0#8⟩) := hrx
  have heq := effAcq_of_clean htx hrx rfl
  have htrace := received_trace htx hrx
  rw [← deliver_trace, ← heq] at htrace
  exact acq_delivers hs htx hrx (.inl rfl) (heq ▸ (holdsFrame_received s _).deliver) htrace

/-- Settles O40: a faulted frame is delivered from where its recovery write left it. -/
theorem faultedFrameIsRecoveredOnceAndDelivered : Obligations.FaultedFrameIsRecoveredOnceAndDelivered := by
  intro s b0 b1 b2 b3 b4 b5 b6 hs htx hrx hb hrec
  replace hrx : secondRx 7 s = .ok (Frame.toBytes ⟨b0, b1, b2, b3, b4, b5, b6⟩) := hrx
  have heq := effAcq_of_recovered htx hrx hb hrec
  have htrace := recovered_received_trace htx hrx
  rw [← deliver_trace, ← heq, hrec] at htrace
  have hdone := acq_delivers hs htx hrx (.inr hrec) (heq ▸ (holdsFrame_received s _).recovered.deliver) htrace
  rw [bne_iff_ne.mpr hb, if_neg hb] at hdone
  exact hdone

/-! ### Failures (rule R167) -/

theorem acq_read_fails {s : State} {k : FailKind} {ev : List BusEvent} (hs : s.seq = .idle)
    (hread : (memRead addrData frameLen s).1 = .fail k)
    (htrace : (memRead addrData frameLen s).2.trace = s.trace ++ ev) :
    ∃ t, exec .acq s = .next t ∧ acqFrame s t ev ∧
      t.err = true ∧ t.cause = causeOf k ∧ t.valid = false ∧ t.fault = s.fault := by
  have heq := effAcq_of_read_fail hread
  have hframe := acqFrame_of_trace hs (ev := ev) (by rw [heq, raiseTransport_trace, htrace])
  refine ⟨effAcq s, exec_idle .acq hs, hframe, ?_⟩
  rw [← causeCode_eq_causeOf, heq]
  simp

/-- Settles O41: a failed read is raised from where the read ended, a failed recovery write from where that ended. -/
theorem acqFailurePaths : Obligations.AcqFailurePaths := by
  intro s hs
  refine ⟨fun k htx => ?_, fun k htx hrx => ?_, fun k b0 b1 b2 b3 b4 b5 b6 htx hrx hb hrec => ?_⟩
  · obtain ⟨hread, htrace⟩ := memRead_transmit_fails addrData frameLen htx
    exact acq_read_fails hs hread htrace
  · obtain ⟨hread, htrace⟩ := memRead_transmit_ok addrData frameLen htx
    rw [show secondRx frameLen s = _ from hrx] at hread htrace
    exact acq_read_fails hs hread htrace
  · replace hrx : secondRx 7 s = .ok (Frame.toBytes ⟨b0, b1, b2, b3, b4, b5, b6⟩) := hrx
    have heq := effAcq_of_recovery_fail htx hrx hb hrec
    have htrace := recovered_received_trace htx hrx
    rw [← raiseRecoveryTransport_trace k, ← heq, hrec] at htrace
    have hf : HoldsFrame ⟨b0, b1, b2, b3, b4, b5, b6⟩ (effAcq s) :=
      heq ▸ (holdsFrame_received s _).recovered.raiseRecoveryTransport k
    refine ⟨effAcq s, exec_idle .acq hs, hf.latched, acqFrame_of_trace hs htrace, ?_⟩
    rw [← causeCode_eq_causeOf, heq]
    simp [recovered]

/-! ### Every `ACQ` (rules R166, R172) -/

/-- What the transport can answer to the data read. -/
theorem read_answers (s : State) :
    (∃ k, firstTx s = .fail k) ∨ firstTx s = .ok ∧
      ((∃ k, secondRx 7 s = .fail k) ∨
        ∃ b0 b1 b2 b3 b4 b5 b6 : Byte, secondRx 7 s = .ok [b0, b1, b2, b3, b4, b5, b6]) := by
  cases htx : firstTx s with
  | fail k => exact .inl ⟨k, rfl⟩
  | ok =>
    refine .inr ⟨rfl, ?_⟩
    cases hrx : secondRx 7 s with
    | fail k => exact .inl ⟨k, rfl⟩
    | ok bytes =>
      rw [← frame_toBytes_ofBytes (rxResult_ok_length hrx)]
      exact .inr ⟨_, _, _, _, _, _, _, rfl⟩

theorem trace_of_acqFrame {s t : State} {ev : List BusEvent} (h : acqFrame s t ev) : t.trace = s.trace ++ ev := by
  rw [h]
  rfl

/-- Settles O42: the effect of each answer is known by now; its events are evaluated. -/
theorem acqTraceGuarantees : Obligations.AcqTraceGuarantees := by
  intro s hs
  obtain ⟨htxFail, hrxFail, hrecFail⟩ := acqFailurePaths s hs
  obtain ⟨k, htx⟩ | ⟨htx, ⟨k, hrx⟩ | ⟨b0, b1, b2, b3, b4, b5, b6, hrx⟩⟩ := read_answers s
  · obtain ⟨t, ht, hframe, -, -, -, hfault⟩ := htxFail k htx
    exact ⟨t, _, ht, trace_of_acqFrame hframe, rfl, hfault.trans, .inl ⟨k, rfl, rfl⟩⟩
  · obtain ⟨t, ht, hframe, -, -, -, hfault⟩ := hrxFail k htx hrx
    exact ⟨t, _, ht, trace_of_acqFrame hframe, rfl, hfault.trans, .inr (.inl ⟨k, rfl, rfl⟩)⟩
  by_cases hb : b6 = 0#8
  · obtain ⟨t, ht, -, hframe, hx3, -, -, -, -, hfault⟩ := cleanFrameIsDelivered s b0 b1 b2 b3 b4 b5 b6 hs htx hrx hb
    exact ⟨t, _, ht, trace_of_acqFrame hframe, rfl, hfault.trans,
      .inr (.inr (.inl ⟨b0, b1, b2, b3, b4, b5, b6, hb, rfl, rfl, hx3⟩))⟩
  suffices hfaulted : ∃ t r, exec .acq s = .next t ∧
      acqFrame s t (readEvents s.params.tmo (.ok [b0, b1, b2, b3, b4, b5, b6]) ++ writeEvents s.params.tmo 0xD3#8 r) ∧
      t.fault = false by
    obtain ⟨t, r, ht, hframe, hfault⟩ := hfaulted
    exact ⟨t, _, ht, trace_of_acqFrame hframe, rfl, fun _ => hfault,
      .inr (.inr (.inr ⟨b0, b1, b2, b3, b4, b5, b6, r, hb, rfl, rfl, hfault⟩))⟩
  cases hrec : thirdTx s with
  | ok =>
    obtain ⟨t, ht, -, hframe, -, -, -, -, -, hfault⟩ :=
      faultedFrameIsRecoveredOnceAndDelivered s b0 b1 b2 b3 b4 b5 b6 hs htx hrx hb hrec
    exact ⟨t, .ok, ht, hframe, hfault⟩
  | fail k =>
    obtain ⟨t, ht, -, hframe, -, -, -, hfault⟩ := hrecFail k b0 b1 b2 b3 b4 b5 b6 htx hrx hb hrec
    exact ⟨t, .fail k, ht, hframe, hfault⟩

theorem SameF.symm {a b : F} (h : SameF a b) : SameF b a := h.imp Eq.symm And.symm

theorem SameF.trans {a b c : F} (h : SameF a b) (hc : SameF b c) : SameF a c := by
  obtain rfl | ⟨ha, hb⟩ := h
  · exact hc
  · obtain rfl | ⟨-, hc⟩ := hc
    · exact .inr ⟨ha, hb⟩
    · exact .inr ⟨ha, hc⟩

/-- Settles O43: both temperatures are the bound conversion of the same resistance. -/
theorem acqTemperatureIsConvOfItsResistance : Obligations.AcqTemperatureIsConvOfItsResistance := by
  intro s t ht herr
  obtain ⟨hs, rfl⟩ := exec_next ht
  obtain ⟨v, hv⟩ := effAcq_eq_deliver herr
  obtain ⟨u, hu, -, hconv⟩ := boundConversionResult { effAcq s with x0 := (effAcq s).x3 } (effectOf_seq .acq hs)
  have hx2 : SameF (effAcq s).x2 (bound (effAcq s) (effAcq s).x3) := hv ▸ deliver_x2_bound v
  exact ⟨u, hu, hconv.trans hx2.symm⟩

end Sys2Proof.Machine
end

section
/-! PROOFS. The phase after a tick and the fault state machine (rules R168 to R171): `nextPhase` and `nextFault` say once
what every tick does to the phase and to `FAULT`. -/

namespace Sys2Proof.Machine

open Sys2Proof.Spec (firstTx)

/-- The phase that follows, by the transport's answer in a phase of the bus and by the fault byte in `DECODE`. -/
def nextPhase (s : State) : Phase :=
  match s.seq with
  | .idle | .exec | .compute | .cfgTx | .rcRx => .idle
  | .rdTx => if firstTx s = .ok then .rdRx else .idle
  | .rdRx => if firstTx s = .ok then .decode else .idle
  | .decode => if s.fb.b6 = 0#8 then .compute else .faultDet
  | .faultDet => .recover
  | .recover => if firstTx s = .ok then .compute else .idle
  | .rcTx => if firstTx s = .ok then .rcRx else .idle

/-- `FAULT` after a tick (rule R169). -/
def nextFault (s : State) : Bool :=
  match s.seq with
  | .faultDet => true
  | .recover => false
  | .idle | .exec | .rdTx | .rdRx | .decode | .compute | .cfgTx | .rcTx | .rcRx => s.fault

/-! ### Phase by phase -/

section
variable (s : State)

theorem tickRdTx_next :
    (tickRdTx s).seq = (if firstTx s = .ok then .rdRx else .idle) ∧ (tickRdTx s).fault = s.fault := by
  cases h : (nextReply s).outcome <;> simp [tickRdTx, firstTx, h]

theorem tickRdRx_next :
    (tickRdRx s).seq = (if firstTx s = .ok then .decode else .idle) ∧ (tickRdRx s).fault = s.fault := by
  cases h : (nextReply s).outcome <;> simp [tickRdRx, rxResult, firstTx, h]

theorem tickDecode_next :
    (tickDecode s).seq = (if s.fb.b6 = 0#8 then .compute else .faultDet) ∧ (tickDecode s).fault = s.fault := by
  by_cases h : s.fb.b6 = 0#8 <;> simp [tickDecode, faulted, Frame.fstat, h]

theorem tickRecover_next :
    (tickRecover s).seq = (if firstTx s = .ok then .compute else .idle) ∧ (tickRecover s).fault = false := by
  cases h : (nextReply s).outcome <;> simp [tickRecover, memWrite_eq, firstTx, h]

theorem tickRcTx_next :
    (tickRcTx s).seq = (if firstTx s = .ok then .rcRx else .idle) ∧ (tickRcTx s).fault = s.fault := by
  cases h : (nextReply s).outcome <;> simp [tickRcTx, firstTx, h]

theorem tickRcRx_fault : (tickRcRx s).fault = s.fault := by
  cases h : rxResult 1 s <;> simp [tickRcRx, h]

end

theorem tick_next {s t : State} (h : tick s = .next t) : t.seq = nextPhase s ∧ t.fault = nextFault s := by
  rw [nextPhase, nextFault]
  unfold tick at h
  split at h <;> rw [‹s.seq = _›]
  case h_2 =>
    obtain ⟨v, rfl⟩ := tickExec_next h
    exact ⟨rfl, rfl⟩
  case h_9 =>
    obtain ⟨w, rfl⟩ := tickCfgTx_next h
    rw [effInit_frame]
    exact ⟨rfl, rfl⟩
  all_goals obtain rfl := Host.Outcome.next.inj h
  · exact ⟨‹_›, rfl⟩
  · exact tickRdTx_next s
  · exact tickRdRx_next s
  · exact tickDecode_next s
  · exact ⟨rfl, rfl⟩
  · exact tickRecover_next s
  · exact ⟨deliver_seq s, deliver_fault s⟩
  · exact tickRcTx_next s
  · exact ⟨tickRcRx_seq s, tickRcRx_fault s⟩

theorem tick_of_idle {s : State} (hs : s.seq = .idle) : tick s = .next s := by rw [tick, hs]

/-- Settles O45, each clause from the one phase that can follow; in `IDLE` a tick answers the state itself. -/
theorem phaseSuccession : Obligations.PhaseSuccession := by
  intro s t h
  have hseq := (tick_next h).1
  rw [nextPhase] at hseq
  refine ⟨fun hs => Host.Outcome.next.inj (h.symm.trans (tick_of_idle hs)), ?_, ?_, ?_, ?_, ?_, ?_, ?_⟩
  · rintro (hs | hs | hs | hs) <;> rwa [hs] at hseq
  all_goals
    intro hs
    rwa [hs] at hseq

/-! ### The fault state machine -/

theorem nextPhase_faultDet {s : State} (h : nextPhase s = .faultDet) : s.seq = .decode ∧ s.fb.b6 ≠ 0#8 := by
  cases hs : s.seq <;> simp [nextPhase, hs, ite_eq_iff] at h ⊢
  case decode => exact h

theorem nextPhase_recover {s : State} (h : nextPhase s = .recover) : s.seq = .faultDet := by
  cases hs : s.seq <;> simp [nextPhase, hs, ite_eq_iff] at h ⊢

theorem nextFault_of_plain {s : State} (hdet : s.seq ≠ .faultDet) (hrec : s.seq ≠ .recover) :
    nextFault s = s.fault := by
  rw [nextFault]
  split
  · exact absurd ‹_› hdet
  · exact absurd ‹_› hrec
  all_goals rfl

/-- Settles O46, by what leads to each of the two phases and by `FAULT` after each. -/
theorem faultStateMachine : Obligations.FaultStateMachine := by
  intro s t h
  obtain ⟨hseq, hfault⟩ := tick_next h
  refine ⟨fun _ ht => nextPhase_faultDet (hseq.symm.trans ht), fun hs => ?_, fun hs => ?_,
    fun hdet hrec => hfault.trans (nextFault_of_plain hdet hrec), fun ht => nextPhase_recover (hseq.symm.trans ht)⟩
  · rw [hseq, hfault, nextPhase, nextFault, hs]
    exact ⟨rfl, rfl⟩
  · rw [hseq, hfault, nextPhase, nextFault, hs]
    exact ⟨rfl, ite_eq_or_eq _ _ _⟩

end Sys2Proof.Machine
end

section
/-! PROOFS. Nothing is fatal (rule R199): from a state of the invariant a step answers, or it refuses a host line that is
not well formed (rules R68, R84). -/

namespace Sys2Proof.Machine

/-- The host's next line is performed now, and it is not well formed. -/
def NextLineIllFormed (s : State) : Prop :=
  ∃ a rest, s.seq = .idle ∧ s.program = a :: rest ∧ a.wf = false

/-- In `IDLE` the next line's form decides; in flight every tick answers, which is where the invariant is needed. -/
theorem Invariant.step_answers_or_refuses {s : State} (h : Invariant s) :
    (∃ t, step s = .next t) ∨ (∃ r, step s = .refused r) ∧ NextLineIllFormed s := by
  obtain ⟨-, -, hstep⟩ | ⟨a, rest, hs, hp, -⟩ | ⟨-, hstep⟩ := step_cases s
  · exact .inl ⟨s, hstep⟩
  · obtain ⟨hanswers, hrefuses⟩ := (idleStepPerformsExactlyWellFormedLines s hs).2 a rest hp
    cases hwf : a.wf with
    | true => exact .inl (hanswers hwf)
    | false => exact .inr ⟨hrefuses hwf, a, rest, hs, hp, hwf⟩
  · exact .inl (hstep ▸ h.tick_answers)

/-- Settles O51: neither of a step's two outcomes is a fault, and the one that refuses has an ill-formed next line. -/
theorem nothingIsFatal : Obligations.NothingIsFatal := by
  intro s h
  obtain ⟨t, hstep⟩ | ⟨⟨r, hstep⟩, hline⟩ := h.step_answers_or_refuses <;> rw [hstep]
  · exact ⟨nofun, nofun⟩
  · exact ⟨nofun, fun _ _ => hline⟩

end Sys2Proof.Machine
end
